-- ==== Sys2Proof/Word.lean ====
section
/-! DEFINITION. The words of the model: the byte, the only thing the manual treats as bits in a register's sense.
Every other number of the manual (levels, currents, times, block, train and station numbers) is a Nat. -/

namespace Sys2Proof

/-- One character's data value on the show line, or one byte of the configuration record (R1, R189). -/
abbrev Byte := BitVec 8

end Sys2Proof
end

