-- ==== Sys2Proof/Syntax.lean ====
section
/-! DEFINITION. The commands: one constructor for each row of spec/opcode_table.json. A command's operands are what
comes from outside the station in that step; a row that takes a message reads it from the inbound queue (R11). -/

namespace Sys2Proof

/-- A rotary channel of the station (08, The channel record). -/
inductive Chan where
  | ch0
  | ch1
  deriving DecidableEq, Repr

/-- Why a read transaction on the memory port fails (R189). A low data line is met at the start condition or at the
repeated start, which is a start condition too. -/
inductive PortFailure where
  /-- The device address with the write direction is not acknowledged. -/
  | deviceWriteNoAck
  /-- The word address is not acknowledged. -/
  | wordNoAck
  /-- The device address with the read direction is not acknowledged. -/
  | deviceReadNoAck
  /-- The data line reads low when the loader is about to send the start condition. -/
  | startLow
  /-- The data line reads low when the loader is about to send the repeated start. -/
  | repeatedStartLow
  deriving DecidableEq, Repr

/-- What the two stop sensors of a block read at a detector sample (R61). -/
structure EndSensors where
  rising : Bool
  falling : Bool
  deriving DecidableEq, Repr

/-- The commands of the station, in the order of the opcode table. -/
inductive Instr where
  /-- POWER_ON: supply is applied. -/
  | powerOn
  /-- MEMORY_TRANSACTION_FAILURE: the read transaction in progress fails, for the cause given. -/
  | memoryTransactionFailure (cause : PortFailure)
  /-- MEMORY_RETRY_WAIT_END: the 10 ms wait after a failed transaction ends. -/
  | memoryRetryWaitEnd
  /-- CONFIGURATION_READ_COMPLETE: the transaction ends with these 160 bytes read, byte 0 first. -/
  | configurationReadComplete (record : List Byte)
  /-- LISTENING_WINDOW_END: one announce interval has passed since entry to Listening. -/
  | listeningWindowEnd
  /-- IDLE_TIME: the line has read mark for one idle time while the receiver hunts. -/
  | idleTime
  /-- LEAD_CHARACTER: a character with lead bit 1 was received; `moves` movements of scene time fell between its
  start bit and its end. -/
  | leadCharacter (data : Byte) (moves : Nat)
  /-- DATA_CHARACTER: a character with lead bit 0 was received. -/
  | dataCharacter (data : Byte)
  /-- FRAMING_ERROR: a character whose stop bit reads space. -/
  | framingError
  /-- MESSAGE_COMPLETE: the last character of the open message was received. -/
  | messageComplete (data : Byte)
  /-- LINE_IDLE_COMPLETE: the line has read mark for 11 bit times after the last activity. -/
  | lineIdleComplete
  /-- SLOT: a further 11 bit times of mark. -/
  | slot
  /-- ATTEMPT_START: the bit boundary at which a head message begins an attempt. -/
  | attemptStart
  /-- COLLISION: a bit sent at mark reads space. -/
  | collision
  /-- BREAK_END: the station's own break of 22 bit times ends. -/
  | breakEnd
  /-- MESSAGE_SENT: the stop bit of the check character was read back without mismatch. -/
  | messageSent
  /-- LINE_STUCK: the line has been held at space for 44 bit times. -/
  | lineStuck
  /-- SILENCE_TIMEOUT: the silence time runs out. -/
  | silenceTimeout
  /-- CLAIM: the track unit takes the Claim at the head of the inbound queue. -/
  | claim
  /-- RELEASE: the track unit takes the Release at the head of the inbound queue. -/
  | release
  /-- TRAIN_PLACE: the track unit takes the Train place at the head of the inbound queue. -/
  | trainPlace
  /-- GRANT: the train table takes the Grant at the head of the inbound queue. -/
  | grant
  /-- REFUSE: the train table takes the Refuse at the head of the inbound queue. -/
  | refuse
  /-- BLOCK_STATE: the train table takes the Block state at the head of the inbound queue. -/
  | blockState
  /-- TRAIN_ORDER_SPEED: the train table takes the Speed order at the head of the inbound queue. -/
  | trainOrderSpeed
  /-- TRAIN_ORDER_STOP: the train table takes the Stop order at the head of the inbound queue. -/
  | trainOrderStop
  /-- TRAIN_ORDER_REVERSE: the train table takes the Reverse order at the head of the inbound queue. -/
  | trainOrderReverse
  /-- TRAIN_ORDER_REMOVE: the train table takes the Remove order at the head of the inbound queue. -/
  | trainOrderRemove
  /-- TIME_MARK: the scene clock takes the Time mark at the head of the inbound queue. -/
  | timeMark
  /-- ANNOUNCE: the peer table takes the Announce at the head of the inbound queue. -/
  | announce
  /-- SHOW_EVENT: the cue unit takes the Show event at the head of the inbound queue. -/
  | showEvent
  /-- CUE_LOAD: the cue unit takes the Cue load at the head of the inbound queue. -/
  | cueLoad
  /-- CUE_CLEAR: the cue unit takes the Cue clear at the head of the inbound queue. -/
  | cueClear
  /-- LAMP_ORDER_SET: the lamp engine takes the set Lamp order at the head of the inbound queue. -/
  | lampOrderSet
  /-- LAMP_ORDER_CLEAR: the lamp engine takes the clear Lamp order at the head of the inbound queue. -/
  | lampOrderClear
  /-- ROTARY_ORDER_RUN: the rotary unit takes the Run order at the head of the inbound queue. -/
  | rotaryOrderRun
  /-- ROTARY_ORDER_STOP: the rotary unit takes the Stop order at the head of the inbound queue. -/
  | rotaryOrderStop
  /-- ROTARY_ORDER_CLEAR: the rotary unit takes the Clear order at the head of the inbound queue. -/
  | rotaryOrderClear
  /-- POWER_ORDER: the load governor takes the Power order at the head of the inbound queue. -/
  | powerOrder
  /-- QUERY_STATUS: the report unit takes the Status Query at the head of the inbound queue. -/
  | queryStatus
  /-- QUERY_BLOCKS: the report unit takes the Blocks Query at the head of the inbound queue. -/
  | queryBlocks
  /-- QUERY_TRAINS: the report unit takes the Trains Query at the head of the inbound queue. -/
  | queryTrains
  /-- QUERY_COUNTERS: the report unit takes the Counters Query at the head of the inbound queue. -/
  | queryCounters
  /-- QUERY_CUES: the report unit takes the Cues Query at the head of the inbound queue. -/
  | queryCues
  /-- QUERY_PEERS: the report unit takes the Peers Query at the head of the inbound queue. -/
  | queryPeers
  /-- REPORT: the report unit takes the Report at the head of the inbound queue. -/
  | report
  /-- FAULT_NOTICE: the report unit takes the Fault notice at the head of the inbound queue. -/
  | faultNotice
  /-- RESTART: the start-up loader takes the Restart at the head of the inbound queue. -/
  | restart
  /-- AGE_STEP: one second of the peer table. -/
  | ageStep
  /-- ANNOUNCE_INTERVAL: an announce interval has passed since the previous offer. -/
  | announceInterval
  /-- CLOCK_STEP: 10 ms of the scene clock. -/
  | clockStep
  /-- TIME_MARK_INTERVAL: a time-mark interval has passed since the previous scheduled offer. -/
  | timeMarkInterval
  /-- DETECTOR_SAMPLE: the eight detector currents in mA and the eight pairs of stop sensors, lowest slot first. -/
  | detectorSample (currents : List Nat) (sensors : List EndSensors)
  /-- COOLOFF_END: the CoolOff timer of the block runs out. -/
  | cooloffEnd (block : Nat)
  /-- RESERVATION_EXPIRY: the hold time of the block's reservation runs out. -/
  | reservationExpiry (block : Nat)
  /-- SPEED_STEP: 100 ms of the train table. -/
  | speedStep
  /-- ANSWER_TIMEOUT: the answer timer of the train's claim runs out. -/
  | answerTimeout (train : Nat)
  /-- RETRY_WAIT_END: the retry wait of the train's claim ends. -/
  | retryWaitEnd (train : Nat)
  /-- GOVERNOR_STEP: 100 ms of the load governor, with the die temperature read in whole degrees C. -/
  | governorStep (temperature : Int)
  /-- LAMP_STEP: 10 ms of the lamp engine. -/
  | lampStep
  /-- ROTARY_STEP: 100 ms of the rotary unit. -/
  | rotaryStep
  /-- INDEX_PULSE: an index pulse of the channel. -/
  | indexPulse (channel : Chan)
  /-- HELD_TIMER_EXPIRY: the Held timer of the channel runs out. -/
  | heldTimerExpiry (channel : Chan)
  /-- STALL_TIMER_EXPIRY: the stall timer of the channel runs out. -/
  | stallTimerExpiry (channel : Chan)
  /-- OWN_EVENT: the cue unit takes the oldest pending own event. -/
  | ownEvent
  deriving DecidableEq, Repr

end Sys2Proof
end

