-- ==== Sys2Proof/Decode.lean ====
section
/-! DEFINITION. The words of the commands. Every row of spec/opcode_table.json has an empty list of fields and no bits:
commands are not encoded as words, so no word spells one. -/

namespace Sys2Proof

/-- The command a word spells by the table's bits: the table gives no row any bits, so there is none. -/
def decodeTableWord (_nbits _w : Nat) : Option Instr := none

end Sys2Proof
end

