-- ==== Sys2Proof/Machine/State.lean ====
section
/-! DEFINITION. The state of the station, block by block, and its value at reset. Everything the spec computes from
other state (booster state, rotary reserved current, train record state, fault lamp) is computed, not stored (log 20). -/

namespace Sys2Proof.Machine

/-! ### Messages -/

/-- The nineteen message kinds (12, Message kinds). -/
inductive Kind where
  | claim | grant | refuse | release | blockState | trainOrder | trainPlace | timeMark | announce | showEvent
  | lampOrder | rotaryOrder | powerOrder | query | report | faultNotice | cueLoad | cueClear | restart
  deriving DecidableEq, Repr

/-- A whole valid message in the inbound queue, with its arrival stamp (R9, R10). -/
structure InMsg where
  dest : Nat
  src : Nat
  kind : Kind
  body : List Byte
  stamp : Nat
  deriving DecidableEq, Repr

/-- A message offered to the line controller: the offering block gives destination, kind and body (R2, R12). The
ticket numbers the sending of a claim, so that its outcome can be told to the claim (R96, log 8). -/
structure OutMsg where
  dest : Nat
  kind : Kind
  body : List Byte
  ticket : Option Nat
  deriving DecidableEq, Repr

/-- The head of an outbound queue with the numbers it carries: attempt count, remaining slots (R14), whether it is in
hand (01, The outbound queues) and whether it was present at the start of the slot in progress (R15). -/
structure Head where
  msg : OutMsg
  attempt : Nat
  slots : Nat
  inHand : Bool
  counting : Bool
  deriving DecidableEq, Repr

/-- An outbound queue, first in first out: the head and the messages behind it (R12, R13). -/
structure OutQueue where
  head : Option Head
  rest : List OutMsg
  deriving DecidableEq, Repr

/-! ### Line controller -/

/-- The receiver (01, The receiver); off while the station is Loading or Unconfigured (R3). An Open message is held
with the characters received so far, lead character first, and the arrival stamp of its lead character. -/
inductive Receiver where
  | off
  | hunting
  | idle
  | opened (chars : List Byte) (stamp : Nat)
  | skipping
  deriving DecidableEq, Repr

/-- The transmitter: not sending, sending an attempt of the urgent or the routine head with the characters as sent
(R16), or sending a break of 22 bit times (R17). -/
inductive Tx where
  | quiet
  | sending (urgent : Bool) (chars : List Byte)
  | breaking
  deriving DecidableEq, Repr

/-- The line condition (01, Line conditions). -/
inductive LineCond where
  | heard | isolated | stuck
  deriving DecidableEq, Repr

/-- The silence time (R23): not running, running (with the length in ms it was started at, log 3), or run out. -/
inductive Silence where
  | off
  | running (ms : Nat)
  | ranOut
  deriving DecidableEq, Repr

/-- The line controller (01). `idleDone`: the idle time is complete and no start bit has arrived since (R15, R16). -/
structure Line where
  receiver : Receiver
  inbound : List InMsg
  urgent : OutQueue
  routine : OutQueue
  tx : Tx
  idleDone : Bool
  cond : LineCond
  silence : Silence
  deriving DecidableEq, Repr

/-- A line counter with its saturated mark (R24). -/
structure Counter where
  count : Nat
  saturated : Bool
  deriving DecidableEq, Repr

/-- The names of the nine line counters, in the order of the Counters report (R182). -/
inductive CounterName where
  | checkErr | framing | cut | malformed | overrun | shed | collisions | giveUps | outDrop
  deriving DecidableEq, Repr

/-- The nine line counters (01, Line counters). -/
structure Counters where
  checkErr : Counter
  framing : Counter
  cut : Counter
  malformed : Counter
  overrun : Counter
  shed : Counter
  collisions : Counter
  giveUps : Counter
  outDrop : Counter
  deriving DecidableEq, Repr

/-! ### Peer table -/

/-- A peer entry (02, The peer table). -/
structure Peer where
  station : Nat
  base : Nat
  size : Nat
  age : Nat
  fresh : Bool
  clash : Bool
  deriving DecidableEq, Repr

/-- The peer table and its PeerOverflow flag (R27, R31); entries in ascending station number (log 25). -/
structure PeerTable where
  entries : List Peer
  overflow : Bool
  deriving DecidableEq, Repr

/-! ### Scene clock -/

/-- The phases of the model day (R56). -/
inductive Phase where
  | night | dawn | day | dusk
  deriving DecidableEq, Repr

/-- The scene clock (03). `recent` are the scene times left behind by the latest movements, newest first: the model's
own, for the reading at a start bit (R9, R47, log 7). -/
structure Clock where
  time : Nat
  owed : Nat
  adopting : Bool
  rateMismatch : Bool
  jumps : Bool
  phase : Phase
  daylight : Nat
  recent : List Nat
  deriving DecidableEq, Repr

/-! ### Track unit -/

/-- A running direction (05, Train records). -/
inductive Dir where
  | forward | reverse
  deriving DecidableEq, Repr

/-- What a Reserved record holds (R58, R67): the holder pair, the expiry in ms it was started at (log 3), the claim
level and direction, and the origin block if the claim named one. -/
structure Reservation where
  train : Nat
  station : Nat
  expiry : Nat
  level : Nat
  dir : Dir
  origin : Option Nat
  deriving DecidableEq, Repr

/-- The state of a block record with what it names in that state (R58). -/
inductive BlockState where
  | free
  | reserved (r : Reservation)
  | occupied (train : Nat)
  | intruded
  | blocked
  deriving DecidableEq, Repr

/-- A block record with its detector and booster data (R58 to R62). `detOccupied` is the detector state, `coolOff` the
CoolOff timer (ms), `risingWas` and `fallingWas` the last readings of the stop sensors. -/
structure Block where
  number : Nat
  state : BlockState
  detOccupied : Bool
  highRun : Nat
  lowRun : Nat
  sample : Nat
  shortRun : Nat
  coolOff : Option Nat
  risingWas : Bool
  fallingWas : Bool
  deriving DecidableEq, Repr

/-! ### Train table -/

/-- A pending reversal (R105): none, pending, or pending with a resume speed. -/
inductive Reversal where
  | none
  | pending
  | resume (speed : Nat)
  deriving DecidableEq, Repr

/-- A train record (05, Train records); its state is computed (R80, log 20). The trail is newest first. -/
structure Train where
  num : Nat
  dir : Dir
  target : Nat
  present : Nat
  trail : List Nat
  stopReached : Bool
  leaving : Bool
  enteredFrom : Option Nat
  reversal : Reversal
  deriving DecidableEq, Repr

/-- The state of a pending claim with its timers and waits (05, The pending-claim list); timers in ms (log 3). A Sent
claim keeps the number of its sending (log 8). -/
inductive ClaimState where
  | queued (retry : Option Nat) (ownerWait : Option Nat)
  | sent (ticket : Nat) (answer : Option Nat)
  | granted
  deriving DecidableEq, Repr

/-- A pending claim. -/
structure PClaim where
  block : Nat
  train : Nat
  owner : Option Nat
  level : Nat
  state : ClaimState
  deriving DecidableEq, Repr

/-- The state of a block as a Block state message reports it. -/
inductive Reported where
  | free | reserved | occupied | intruded | blocked
  deriving DecidableEq, Repr

/-- An entry of the neighbour view (R102). -/
structure ViewEntry where
  block : Nat
  state : Reported
  train : Nat
  reporter : Nat
  age : Nat
  deriving DecidableEq, Repr

/-- The train table: records in ascending train number, claims in creation order (R94), the neighbour view in
ascending block number (log 25), and the number of the next sending of a claim (the model's own, log 8). -/
structure TrainTable where
  records : List Train
  claims : List PClaim
  view : List ViewEntry
  nextTicket : Nat
  deriving DecidableEq, Repr

/-! ### Load governor -/

/-- The power levels (06, Power levels). -/
inductive PowerLevel where
  | show | economy | rest
  deriving DecidableEq, Repr

/-- The temperature states (R113). -/
inductive TempState where
  | normal | warm | tripped
  deriving DecidableEq, Repr

/-- The load governor (06). The rotary reserved current Q is computed from the rotary channels (R117, log 20). -/
structure Governor where
  level : PowerLevel
  effective : Nat
  temp : TempState
  latest : Int
  working : Nat
  boosterB : Nat
  allowance : Nat
  deriving DecidableEq, Repr

/-! ### Lamp engine -/

/-- The four lamp groups. -/
inductive Group where
  | a | b | c | d
  deriving DecidableEq, Repr

/-- A lamp channel's levels and duties (07, Lamp channels). -/
structure LampChannel where
  requested : Nat
  present : Nat
  wanted : Nat
  duty : Nat
  deriving DecidableEq, Repr

/-- A group override: its level, its until-time in scene minutes with the last seen scene time, if it has one. -/
structure Override where
  level : Nat
  ending : Option (Nat × Nat)
  deriving DecidableEq, Repr

/-- The running part of a lamp group record: the Dusk switch latch and the override. -/
structure LampGroup where
  latch : Bool
  override : Option Override
  deriving DecidableEq, Repr

/-- The lamp engine (07): sixteen channels, four groups, the trip mark (R141). -/
structure Lamps where
  channels : List LampChannel
  a : LampGroup
  b : LampGroup
  c : LampGroup
  d : LampGroup
  tripMark : Bool
  deriving DecidableEq, Repr

/-! ### Rotary unit -/

/-- The eight states of a rotary channel. -/
inductive RotState where
  | parked | held | starting | running | stopping | seeking | stalled | halted
  deriving DecidableEq, Repr

/-- A rotary channel record (08, The channel record); timers in ms they were started at (log 3). -/
structure Rotary where
  state : RotState
  remaining : Nat
  parkOnly : Bool
  drive : Nat
  heldTimer : Option Nat
  stallTimer : Option Nat
  deriving DecidableEq, Repr

/-- The rotary unit: channel 0 and channel 1. -/
structure RotaryUnit where
  ch0 : Rotary
  ch1 : Rotary
  deriving DecidableEq, Repr

/-! ### Cue unit -/

/-- The ten actions (R160). -/
inductive Action where
  | lampSet (g : Group) (level : Nat) (untilTime : Option Nat)
  | lampClear (g : Group)
  | power (level : PowerLevel)
  | rotaryRun (ch : Chan) (revolutions : Nat)
  | rotaryStop (ch : Chan)
  | rotaryClear (ch : Chan)
  | trainSpeed (train : Nat) (value : Nat)
  | trainStop (train : Nat)
  | trainReverse (train : Nat)
  | showEvent (code : Nat)
  deriving DecidableEq, Repr

/-- A cue: trigger minute and action (09, The cue list). -/
structure Cue where
  minute : Nat
  action : Action
  deriving DecidableEq, Repr

/-- A show event: code, origin station, hop (R165, R173). -/
structure ShowEvent where
  code : Nat
  origin : Nat
  hop : Nat
  deriving DecidableEq, Repr

/-- The cue unit (09); the listen table is part of the settings. -/
structure CueUnit where
  cues : List Cue
  index : Nat
  cueTime : Nat
  own : List ShowEvent
  missed : Nat
  deriving DecidableEq, Repr

/-! ### Report unit -/

/-- The nine fault classes (10, Fault classes). -/
inductive FaultClass where
  | lineStuck | clash | warm | trip | stall | short | intrusion | heldAbandoned | listFull
  deriving DecidableEq, Repr

/-- One flag for each fault class: the active-fault set, the new-fault set, the notice mask. -/
structure FaultSet where
  lineStuck : Bool
  clash : Bool
  warm : Bool
  trip : Bool
  stall : Bool
  short : Bool
  intrusion : Bool
  heldAbandoned : Bool
  listFull : Bool
  deriving DecidableEq, Repr

/-- The fault sets of the report unit (R183, R184). -/
structure Faults where
  active : FaultSet
  fresh : FaultSet
  deriving DecidableEq, Repr

/-! ### Settings -/

/-- A power level descriptor (R109). -/
structure LevelDesc where
  budget : Nat
  settle : Nat
  cap : Nat
  rotaries : Bool
  deriving DecidableEq, Repr

/-- The settings of one block slot: neighbours (R81), arrival codes and sensor presence (R61), extended vacancy (R58). -/
structure SlotCfg where
  rising : Option Nat
  falling : Option Nat
  risingCode : Nat
  fallingCode : Nat
  risingPresent : Bool
  fallingPresent : Bool
  extended : Bool
  deriving DecidableEq, Repr

/-- The settings of a lamp channel (R125). -/
structure LampCfg where
  configured : Bool
  group : Group
  fullScale : Nat
  deriving DecidableEq, Repr

/-- The modes of a lamp group (R126). -/
inductive LampMode where
  | daylight | night | duskSwitch | fixed | off
  deriving DecidableEq, Repr

/-- The configured mood of a lamp group (R126). -/
structure GroupCfg where
  mode : LampMode
  gain : Nat
  onLevel : Nat
  onThreshold : Nat
  offThreshold : Nat
  fade : Nat
  deriving DecidableEq, Repr

/-- The settings of a rotary channel (R144). -/
structure RotCfg where
  configured : Bool
  anticlockwise : Bool
  runLevel : Nat
  creepLevel : Nat
  ramp : Nat
  runCurrent : Nat
  stallTimeout : Nat
  deriving DecidableEq, Repr

/-- A listen entry (R172); no action when its action field is malformed. -/
structure ListenEntry where
  enabled : Bool
  origin : Nat
  code : Nat
  action : Option Action
  relay : Bool
  deriving DecidableEq, Repr

/-- All settings taken from the configuration record, as clamped (R192). Times in s where the record gives s. -/
structure Settings where
  station : Nat
  lineRate : Nat
  silence : Nat
  announce : Nat
  winSize : Nat
  winBase : Nat
  dayLength : Nat
  startMinute : Nat
  timeMark : Nat
  dawnStart : Nat
  dawnLength : Nat
  duskStart : Nat
  duskLength : Nat
  nightFloor : Nat
  occThreshold : Nat
  tripCurrent : Nat
  slots : List SlotCfg
  holdTime : Nat
  accStep : Nat
  approach : Nat
  showLevel : LevelDesc
  economyLevel : LevelDesc
  restLevel : LevelDesc
  startLevel : PowerLevel
  warnTemp : Nat
  critTemp : Nat
  lamps : List LampCfg
  groupA : GroupCfg
  groupB : GroupCfg
  groupC : GroupCfg
  groupD : GroupCfg
  rot0 : RotCfg
  rot1 : RotCfg
  listen : List ListenEntry
  mask : FaultSet
  deriving DecidableEq, Repr

/-! ### Start-up loader -/

/-- The four station states (11). -/
inductive StationState where
  | loading | unconfigured | listening | running
  deriving DecidableEq, Repr

/-- The memory port (R189): a transaction in progress, the 10 ms wait after a failed one, or no more reading. -/
inductive Port where
  | reading | waiting | finished
  deriving DecidableEq, Repr

/-- A stage of a transaction on the memory port, in the order it takes place on the two wires (R189). -/
inductive PortStage where
  /-- A start condition that begins a transaction, both lines high. -/
  | start
  /-- A start condition that follows a byte of the same transaction, no stop condition between them. -/
  | repeatedStart
  /-- The loader sends a byte; the memory acknowledges it or not. -/
  | send (data : Byte) (acknowledged : Bool)
  /-- The loader reads a byte, and acknowledges it or not. -/
  | read (data : Byte) (acknowledged : Bool)
  /-- A stop condition. -/
  | stop
  deriving DecidableEq, Repr

/-- The start-up loader: station state, memory port, number of the transaction (1 to 8), whether the transaction that
ended last ended with a stop condition, the stages of that transaction on the wires and the clock periods of the port
spent in this Loading (both the model's own, log 22). -/
structure Loader where
  station : StationState
  port : Port
  transaction : Nat
  stopSent : Bool
  wire : List PortStage
  periods : Nat
  deriving DecidableEq, Repr

/-- The state of the station. `freeCount` numbers the free choices (log 6); `pending` is the queue of waiting commands,
first in first out (log 1). -/
structure State where
  loader : Loader
  settings : Settings
  line : Line
  counters : Counters
  peers : PeerTable
  clock : Clock
  blocks : List Block
  trains : TrainTable
  gov : Governor
  lamps : Lamps
  rotary : RotaryUnit
  cues : CueUnit
  faults : Faults
  freeCount : Nat
  pending : List Instr
  deriving DecidableEq, Repr

/-! ### Reasons a step can stop -/

/-- Faults: the spec describes no event that stops the part and calls none undefined, so there is none. -/
inductive Fault where
  deriving DecidableEq, Repr

/-- Refusals: raised by `exec` alone, for a command that has no meaning yet. Safe: the machine stops where the station
goes on. -/
inductive Refusal where
  /-- Raised by an arm of `exec` whose command is not modelled yet; safe. -/
  | notModelled (mnemonic : String)
  deriving DecidableEq, Repr

/-! ### Values after power-on -/

/-- A line counter at power-on (R25). -/
def Counter.zero : Counter := { count := 0, saturated := false }

/-- The line counters at power-on (R25). -/
def Counters.zero : Counters :=
  { checkErr := .zero, framing := .zero, cut := .zero, malformed := .zero, overrun := .zero, shed := .zero,
    collisions := .zero, giveUps := .zero, outDrop := .zero }

/-- An empty outbound queue (R14). -/
def OutQueue.empty : OutQueue := { head := none, rest := [] }

/-- The line controller stopped: after power-on and after a Restart whose break has ended (R26). -/
def Line.stopped : Line :=
  { receiver := .off, inbound := [], urgent := .empty, routine := .empty, tx := .quiet, idleDone := false,
    cond := .heard, silence := .off }

/-- No fault class (R187). -/
def FaultSet.empty : FaultSet :=
  { lineStuck := false, clash := false, warm := false, trip := false, stall := false, short := false,
    intrusion := false, heldAbandoned := false, listFull := false }

/-- A block record at the start (R58 to R62): Free, detector Vacant, run counts 0, no CoolOff, sensors inactive. -/
def Block.start (number : Nat) : Block :=
  { number := number, state := .free, detOccupied := false, highRun := 0, lowRun := 0, sample := 0, shortRun := 0,
    coolOff := none, risingWas := false, fallingWas := false }

/-- The train table at the start (R79, R94, R102). -/
def TrainTable.empty : TrainTable := { records := [], claims := [], view := [], nextTicket := 0 }

/-- A lamp channel at the start (R125). -/
def LampChannel.dark : LampChannel := { requested := 0, present := 0, wanted := 0, duty := 0 }

/-- A lamp group at the start (R126). -/
def LampGroup.start : LampGroup := { latch := false, override := none }

/-- The lamp engine at the start (R125, R126, R143). -/
def Lamps.dark : Lamps :=
  { channels := List.replicate 16 .dark, a := .start, b := .start, c := .start, d := .start, tripMark := false }

/-- A rotary channel at the start (R144). -/
def Rotary.parked : Rotary :=
  { state := .parked, remaining := 0, parkOnly := false, drive := 0, heldTimer := none, stallTimer := none }

/-- The rotary unit at the start (R144). -/
def RotaryUnit.parked : RotaryUnit := { ch0 := .parked, ch1 := .parked }

/-- The settings before a record is taken: the values an all-zero record would be clamped to. DESIGN CHOICE (log 4):
no rule gives a setting a value then; unsafe, but no block reads a setting in Loading or Unconfigured. -/
def Settings.initial : Settings :=
  let desc : LevelDesc := { budget := 0, settle := 10, cap := 0, rotaries := false }
  let slot : SlotCfg :=
    { rising := some 0, falling := some 0, risingCode := 0, fallingCode := 0, risingPresent := false,
      fallingPresent := false, extended := false }
  let group : GroupCfg := { mode := .off, gain := 0, onLevel := 0, onThreshold := 0, offThreshold := 1, fade := 1 }
  let rot : RotCfg :=
    { configured := false, anticlockwise := false, runLevel := 1, creepLevel := 1, ramp := 1, runCurrent := 0,
      stallTimeout := 1 }
  { station := 0, lineRate := 31250, silence := 1, announce := 2, winSize := 1, winBase := 0, dayLength := 6,
    startMinute := 0, timeMark := 1, dawnStart := 0, dawnLength := 1, duskStart := 1, duskLength := 1,
    nightFloor := 0, occThreshold := 1, tripCurrent := 500,
    slots := { slot with rising := none, falling := none } :: List.replicate 7 slot,
    holdTime := 5, accStep := 1, approach := 1, showLevel := desc, economyLevel := desc, restLevel := desc,
    startLevel := .rest, warnTemp := 60, critTemp := 70,
    lamps := List.replicate 16 { configured := false, group := .a, fullScale := 0 },
    groupA := group, groupB := group, groupC := group, groupD := group, rot0 := rot, rot1 := rot,
    listen := List.replicate 8
      { enabled := false, origin := 0, code := 0,
        action := some (.lampSet .a 0 (some 0)), relay := false },
    mask := .empty }

/-- The station right after power-on (R188): Loading, the first read transaction begun, every block at its start values
(11, Values after each start). What depends on a record not yet taken stands at the initial settings (log 4). -/
def State.reset : State :=
  { loader := { station := .loading, port := .reading, transaction := 1, stopSent := false, wire := [], periods := 0 }
    settings := .initial
    line := .stopped
    counters := .zero
    peers := { entries := [], overflow := false }
    clock := { time := 0, owed := 0, adopting := true, rateMismatch := false, jumps := false, phase := .dawn,
               daylight := 0, recent := [] }
    blocks := [Block.start 0]
    trains := .empty
    gov := { level := .rest, effective := 0, temp := .normal, latest := 0, working := 0, boosterB := 0, allowance := 0 }
    lamps := .dark
    rotary := .parked
    cues := { cues := [], index := 0, cueTime := 0, own := [], missed := 0 }
    faults := { active := .empty, fresh := .empty }
    freeCount := 0
    pending := [] }

end Sys2Proof.Machine
end

