-- ==== Sys2Proof/Machine/Operands.lean ====
section
/-! DEFINITION. How fields are read from and written to bytes (12, Message and Record Formats): numbers, coded fields,
message kinds, characters on the line, the action field. Nothing here looks at the state. -/

namespace Sys2Proof.Machine

/-! ### Numbers -/

/-- The low byte of a number. -/
def toByte (n : Nat) : Byte := BitVec.ofNat 8 n

/-- A two-byte number, most-significant byte first (R198). -/
def bytes2 (n : Nat) : List Byte := [toByte (n / 256), toByte n]

/-- A four-byte number, most-significant byte first (R198). -/
def bytes4 (n : Nat) : List Byte :=
  [toByte (n / 16777216), toByte (n / 65536), toByte (n / 256), toByte n]

/-- The number in byte `i` of a body or record. -/
def byteAt (body : List Byte) (i : Nat) : Nat := (body.getD i 0).toNat

/-- The two-byte number at `i`, most-significant byte first. -/
def num2 (body : List Byte) (i : Nat) : Nat := byteAt body i * 256 + byteAt body (i + 1)

/-- The three-byte number at `i`, most-significant byte first. -/
def num3 (body : List Byte) (i : Nat) : Nat := num2 body i * 256 + byteAt body (i + 2)

/-- The four-byte number at `i`, most-significant byte first. -/
def num4 (body : List Byte) (i : Nat) : Nat := num3 body i * 256 + byteAt body (i + 3)

/-- A flag as a byte, 0 or 1. -/
def flagByte (b : Bool) : Byte := if b then 1 else 0

/-- The field of `width` bits of `n` whose lowest bit is bit `low`. -/
def bitField (n low width : Nat) : Nat := n / 2 ^ low % 2 ^ width

/-- A value raised to `lo` if below it and lowered to `hi` if above it. -/
def clamp (lo hi n : Nat) : Nat := max lo (min hi n)

/-! ### Message kinds (12, Message kinds) -/

/-- The value of a kind on the line. -/
def Kind.code : Kind → Nat
  | .claim => 1 | .grant => 2 | .refuse => 3 | .release => 4 | .blockState => 5 | .trainOrder => 6
  | .trainPlace => 7 | .timeMark => 8 | .announce => 9 | .showEvent => 10 | .lampOrder => 11 | .rotaryOrder => 12
  | .powerOrder => 13 | .query => 14 | .report => 15 | .faultNotice => 16 | .cueLoad => 17 | .cueClear => 18
  | .restart => 19

/-- The kind a value names, if it names one. -/
def Kind.ofCode : Nat → Option Kind
  | 1 => some .claim | 2 => some .grant | 3 => some .refuse | 4 => some .release | 5 => some .blockState
  | 6 => some .trainOrder | 7 => some .trainPlace | 8 => some .timeMark | 9 => some .announce
  | 10 => some .showEvent | 11 => some .lampOrder | 12 => some .rotaryOrder | 13 => some .powerOrder
  | 14 => some .query | 15 => some .report | 16 => some .faultNotice | 17 => some .cueLoad | 18 => some .cueClear
  | 19 => some .restart
  | _ => none

/-- The urgent kinds (R10); every other kind is routine. -/
def Kind.urgent : Kind → Bool
  | .claim | .grant | .refuse | .release | .trainOrder | .trainPlace | .powerOrder | .restart => true
  | _ => false

/-- The body lengths a kind may have (12, Message kinds). -/
def Kind.lengthOk (k : Kind) (n : Nat) : Bool :=
  match k with
  | .claim => n == 7
  | .grant => n == 3
  | .refuse => n == 3
  | .release => n == 2
  | .blockState => n == 4
  | .trainOrder => n == 4
  | .trainPlace => n == 3
  | .timeMark => n == 5
  | .announce => n == 6
  | .showEvent => n == 3
  | .lampOrder => n == 6
  | .rotaryOrder => n == 4
  | .powerOrder => n == 1
  | .query => n == 2
  | .report => 3 ≤ n && n ≤ 24
  | .faultNotice => n == 3
  | .cueLoad => n == 6 || n == 11 || n == 16 || n == 21
  | .cueClear => n == 0
  | .restart => n == 0

/-! ### Characters and messages on the line -/

/-- The sum of the data values of characters (R2, R7). -/
def byteSum (chars : List Byte) : Nat := (chars.map BitVec.toNat).sum

/-- The check character: it makes the sum of all data values 0 modulo 256 (R2). -/
def checkByte (chars : List Byte) : Byte := toByte (256 - byteSum chars % 256)

/-- The characters of a message as sent: destination, source, kind, body length, body, check (R2). -/
def messageChars (src : Nat) (m : OutMsg) : List Byte :=
  let front := [toByte m.dest, toByte src, toByte m.kind.code, toByte m.body.length] ++ m.body
  front ++ [checkByte front]

/-- The 11 bit times of a character, true for mark: start at space, eight data bits least significant first, the lead
bit, the stop bit at mark (R1). -/
def characterBits (lead : Bool) (data : Byte) : List Bool :=
  false :: ((List.range 8).map fun i => data.getLsbD i) ++ [lead, true]

/-- The bit times of a message, its characters back to back, the lead bit set in the first alone (R1). -/
def messageBits : List Byte → List Bool
  | [] => []
  | c :: cs => characterBits true c ++ (cs.map (characterBits false)).flatten

/-- One bit time in microseconds, the reciprocal of the line rate (R1). -/
def bitTimeUs (lineRate : Nat) : Nat := 1000000 / lineRate

/-! ### Coded fields (12, The coded fields) -/

/-- Direction: 1 Forward, 2 Reverse. -/
def Dir.ofCode : Nat → Option Dir
  | 1 => some .forward
  | 2 => some .reverse
  | _ => none

/-- The code of a direction. -/
def Dir.code : Dir → Nat
  | .forward => 1
  | .reverse => 2

/-- The opposite direction (R106). -/
def Dir.flip : Dir → Dir
  | .forward => .reverse
  | .reverse => .forward

/-- A presence field: 0 absent, 1 present (R198). -/
def presentOf : Nat → Option Bool
  | 0 => some false
  | 1 => some true
  | _ => none

/-- Refuse reasons; code 2 is not used. -/
inductive Reason where
  | notOwner | blocked | busy | occupied | full | vacant
  deriving DecidableEq, Repr

/-- The code of a Refuse reason. -/
def Reason.code : Reason → Nat
  | .notOwner => 1 | .blocked => 3 | .busy => 4 | .occupied => 5 | .full => 6 | .vacant => 7

/-- The Refuse reason a code names. -/
def Reason.ofCode : Nat → Option Reason
  | 1 => some .notOwner | 3 => some .blocked | 4 => some .busy | 5 => some .occupied | 6 => some .full
  | 7 => some .vacant
  | _ => none

/-- The code of a block's state as a Block state message carries it. -/
def Reported.code : Reported → Nat
  | .free => 0 | .reserved => 1 | .occupied => 2 | .intruded => 3 | .blocked => 4

/-- The block state a code names. -/
def Reported.ofCode : Nat → Option Reported
  | 0 => some .free | 1 => some .reserved | 2 => some .occupied | 3 => some .intruded | 4 => some .blocked
  | _ => none

/-- The state of a record as reported. -/
def BlockState.reported : BlockState → Reported
  | .free => .free
  | .reserved _ => .reserved
  | .occupied _ => .occupied
  | .intruded => .intruded
  | .blocked => .blocked

/-- The train a record names, 0 if it names none (R64). -/
def BlockState.train : BlockState → Nat
  | .reserved r => r.train
  | .occupied t => t
  | _ => 0

/-- Lamp group: 0 A, 1 B, 2 C, 3 D. -/
def Group.ofCode : Nat → Option Group
  | 0 => some .a | 1 => some .b | 2 => some .c | 3 => some .d
  | _ => none

/-- Rotary channel 0 or 1. -/
def chanOfCode : Nat → Option Chan
  | 0 => some .ch0
  | 1 => some .ch1
  | _ => none

/-- The number of a rotary channel. -/
def chanNumber : Chan → Nat
  | .ch0 => 0
  | .ch1 => 1

/-- Power level: 1 Show, 2 Economy, 3 Rest. -/
def PowerLevel.ofCode : Nat → Option PowerLevel
  | 1 => some .show | 2 => some .economy | 3 => some .rest
  | _ => none

/-- The code of a power level. -/
def PowerLevel.code : PowerLevel → Nat
  | .show => 1 | .economy => 2 | .rest => 3

/-- The code of a fault class. -/
def FaultClass.code : FaultClass → Nat
  | .lineStuck => 1 | .clash => 2 | .warm => 3 | .trip => 4 | .stall => 5 | .short => 6 | .intrusion => 7
  | .heldAbandoned => 8 | .listFull => 9

/-- A train number a message may name: 1 to 127. -/
def trainOk (n : Nat) : Bool := 0 < n && n ≤ 127

/-- A list of bits as a number, the first of them bit 0. -/
def bitsNat : List Bool → Nat
  | [] => 0
  | b :: bs => (if b then 1 else 0) + 2 * bitsNat bs

/-- A fault set as a 16-bit number: class c is bit c - 1 (12, Message kinds). -/
def FaultSet.number (f : FaultSet) : Nat :=
  bitsNat [f.lineStuck, f.clash, f.warm, f.trip, f.stall, f.short, f.intrusion, f.heldAbandoned, f.listFull]

/-- A fault set read from a 16-bit number; bits 9 to 15 are unused. -/
def FaultSet.ofNumber (n : Nat) : FaultSet :=
  { lineStuck := n.testBit 0, clash := n.testBit 1, warm := n.testBit 2, trip := n.testBit 3, stall := n.testBit 4,
    short := n.testBit 5, intrusion := n.testBit 6, heldAbandoned := n.testBit 7, listFull := n.testBit 8 }

/-! ### The action field (12, The action field; R197) -/

/-- A train argument of an action, 1 to 127; 0 is malformed. -/
def actionTrain (args : Nat) : Option Nat :=
  let t := bitField args 13 7
  if t = 0 then none else some t

/-- The action in a 24-bit field, clamped, or none when it is malformed (R160, R197). -/
def Action.ofField (field : Nat) : Option Action :=
  let code := bitField field 20 4
  let args := bitField field 0 20
  let chan := chanOfCode (bitField args 13 7)
  if code < 4 then
    let u := bitField args 0 11
    (Group.ofCode code).map fun g =>
      .lampSet g (min 1000 (2 * bitField args 11 9)) (if u = 2047 then none else some (min 1439 u))
  else if code < 8 then (Group.ofCode (code - 4)).map .lampClear
  else if code = 8 then (PowerLevel.ofCode (bitField args 0 2)).map .power
  else if code = 9 then chan.map fun c => .rotaryRun c (min 255 (bitField args 0 10))
  else if code = 10 then chan.map .rotaryStop
  else if code = 11 then chan.map .rotaryClear
  else if code = 12 then (actionTrain args).map fun t => .trainSpeed t (min 1000 (bitField args 0 11))
  else if code = 13 then (actionTrain args).map .trainStop
  else if code = 14 then (actionTrain args).map .trainReverse
  else
    let e := bitField args 0 11
    if e = 0 || 255 < e then none else some (.showEvent e)

/-- State actions set something that stays set; every other action is one-shot (R160). -/
def Action.isState : Action → Bool
  | .lampSet .. | .lampClear _ | .power _ => true
  | _ => false

/-- The cue in the five bytes at `i`: trigger minute, then action field (12, The action field). -/
def cueAt (body : List Byte) (i : Nat) : Option Cue :=
  let minute := num2 body i
  if 1439 < minute then none else (Action.ofField (num3 body (i + 2))).map fun a => { minute := minute, action := a }

/-- The first `n` cues at `i`, if all are well formed. -/
def cuesAt (body : List Byte) : Nat → Nat → Option (List Cue)
  | 0, _ => some []
  | n + 1, i =>
    match cueAt body i, cuesAt body n (i + 5) with
    | some c, some cs => some (c :: cs)
    | _, _ => none

/-- The cues of a Cue load, or none when the load is malformed (R169, R197). -/
def cueLoadOf (body : List Byte) : Option (List Cue) :=
  let n := byteAt body 0
  if n = 0 || 4 < n || body.length != 1 + 5 * n then none else cuesAt body n 1

end Sys2Proof.Machine
end

