-- ==== Sys2Proof/Machine/Record.lean ====
section
/-! DEFINITION. The configuration record: its check (R190), and every field decoded and clamped (12, The configuration
record; R192, R199). Each clamp cites the rule of the owning chapter. -/

namespace Sys2Proof.Machine

/-- The format mark (12, byte 0). -/
def formatMark : Nat := 166

/-- The whole-record check (R190): the byte sum, the format mark, the station number. -/
def recordPasses (r : List Byte) : Bool :=
  byteSum r % 256 == 0 && byteAt r 0 == formatMark && 1 ≤ byteAt r 1 && byteAt r 1 ≤ 63

/-! ### Single settings -/

/-- The line rate of a rate code (R1). -/
def lineRateOf (code : Nat) : Nat :=
  if code = 2 then 62500 else if code = 3 then 125000 else 31250

/-- The block window size (R35). -/
def winSizeOf (n : Nat) : Nat :=
  if n ≤ 1 then 1 else if n = 2 then 2 else if n ≤ 4 then 4 else 8

/-- A window base rounded down to a multiple of the size (R28, R35); with size 0 it is kept as it is. -/
def alignBase (base size : Nat) : Nat := if size = 0 then base else base - base % size

/-- The 27 day lengths in real minutes, in the order of their codes 1 to 27 (R41). -/
def dayLengths : List Nat :=
  [6, 8, 9, 10, 12, 15, 16, 18, 20, 24, 25, 30, 32, 36, 40, 45, 48, 50, 60, 64, 72, 75, 80, 90, 96, 100, 120]

/-- The day length: raised to 6, lowered to 120, otherwise raised to the next listed value (R41). -/
def dayLengthOf (n : Nat) : Nat := (dayLengths.find? fun d => n ≤ d).getD 120

/-- The code of a listed day length, 1 to 27 (R41). -/
def dayCode (d : Nat) : Nat := dayLengths.findIdx (fun x => x == d) + 1

/-- The increment I in scene ms per clock step (R41). -/
def increment (d : Nat) : Nat := 14400 / d

/-- The daylight curve after the clamps of R55, in their order: Ds, Dl, Ks, Kl. -/
def curveOf (ds dl ks kl : Nat) : Nat × Nat × Nat × Nat :=
  let ds := min 1438 ds
  let ks := min 1439 ks
  let dl := max 1 dl
  let kl := max 1 kl
  let dl := if 1439 < ds + dl then 1439 - ds else dl
  let ks := max ks (ds + dl)
  let kl := if 1440 < ks + kl then 1440 - ks else kl
  (ds, dl, ks, kl)

/-- A power level descriptor from its three bytes at `i` (R109). -/
def levelDescAt (r : List Byte) (i : Nat) : LevelDesc :=
  { budget := min 10000 (40 * byteAt r i)
    settle := clamp 10 1000 (10 * bitField (byteAt r (i + 1)) 0 7)
    cap := min 1000 (4 * byteAt r (i + 2))
    rotaries := (byteAt r (i + 1)).testBit 7 }

/-- A neighbour byte: the block's own number means none (R199). -/
def neighbourOf (own n : Nat) : Option Nat := if n = own then none else some n

/-- The settings of block slot `i` of a window at `base` (R58, R61, R81). -/
def slotAt (r : List Byte) (base i : Nat) : SlotCfg :=
  { rising := neighbourOf (base + i) (byteAt r (33 + 4 * i))
    falling := neighbourOf (base + i) (byteAt r (34 + 4 * i))
    risingCode := byteAt r (35 + 4 * i)
    fallingCode := byteAt r (36 + 4 * i)
    risingPresent := (byteAt r 66).testBit i
    fallingPresent := (byteAt r 67).testBit i
    extended := (byteAt r 65).testBit i }

/-- The settings of lamp channel `c` (R125): full scale in units of 2 mA, 0 for an unconfigured channel; the group from
two bits of bytes 84 to 87, lowest channel in bits 7..6. -/
def lampAt (r : List Byte) (c : Nat) : LampCfg :=
  { configured := byteAt r (68 + c) != 0
    group := (Group.ofCode (bitField (byteAt r (84 + c / 4)) (6 - 2 * (c % 4)) 2)).getD .a
    fullScale := min 500 (2 * byteAt r (68 + c)) }

/-- The mode of a code; any other code is taken as Off (R126). -/
def modeOf : Nat → LampMode
  | 1 => .daylight
  | 2 => .night
  | 3 => .duskSwitch
  | 4 => .fixed
  | _ => .off

/-- The settings of lamp group `g`, 0 for A to 3 for D (R126). -/
def groupAt (r : List Byte) (g : Nat) : GroupCfg :=
  let i := 90 + 5 * g
  let on := min 1000 (4 * byteAt r (i + 2))
  { mode := modeOf (bitField (byteAt r (88 + g / 2)) (4 - 4 * (g % 2)) 4)
    gain := min 1000 (4 * byteAt r i)
    onLevel := min 1000 (4 * byteAt r (i + 1))
    onThreshold := on
    offThreshold := clamp (on + 1) 1001 (4 * byteAt r (i + 3))
    fade := clamp 1 1000 (byteAt r (i + 4)) }

/-- The settings of rotary channel `k` (R144), clamped in the rule's order. -/
def rotAt (r : List Byte) (k : Nat) : RotCfg :=
  let i := 110 + 5 * k
  let run := clamp 1 1000 (4 * byteAt r (i + 1))
  { configured := (byteAt r i).testBit 7
    anticlockwise := (byteAt r i).testBit 6
    runLevel := run
    creepLevel := clamp 1 run (2 * byteAt r (i + 2))
    ramp := clamp 1 1000 (4 * byteAt r (i + 3))
    runCurrent := min 5000 (50 * byteAt r (i + 4))
    stallTimeout := clamp 1 10 (bitField (byteAt r i) 0 4) }

/-- Listen entry `e` (R172): an event code of 0 or a malformed action clears the enabled mark. The origin has six bits,
so it is never above 63. -/
def listenAt (r : List Byte) (e : Nat) : ListenEntry :=
  let i := 120 + 5 * e
  let action := Action.ofField (num3 r (i + 2))
  { enabled := (byteAt r i).testBit 7 && byteAt r (i + 1) != 0 && action.isSome
    origin := bitField (byteAt r i) 0 6
    code := byteAt r (i + 1)
    action := action
    relay := (byteAt r i).testBit 6 }

/-- The start level of its code; any other code is taken as Rest (R109). -/
def startLevelOf (code : Nat) : PowerLevel := (PowerLevel.ofCode code).getD .rest

/-! ### All settings -/

/-- The 56-bit number of bytes 7 to 13: start minute, Ds, Dl, Ks, Kl of 11 bits each from its top. -/
def minutesNumber (r : List Byte) : Nat := num3 r 7 * 4294967296 + num4 r 10

/-- All settings of a record that passed its check, clamped (R192, R199). -/
def settingsOf (r : List Byte) : Settings :=
  let size := winSizeOf (bitField (byteAt r 4) 0 4)
  let base := alignBase (byteAt r 5) size
  let m := minutesNumber r
  let curve := curveOf (bitField m 34 11) (bitField m 23 11) (bitField m 12 11) (bitField m 1 11)
  let warn := clamp 60 100 (byteAt r 19)
  { station := byteAt r 1
    lineRate := lineRateOf (bitField (byteAt r 2) 6 2)
    silence := clamp 1 10 (bitField (byteAt r 3) 4 4)
    announce := clamp 2 10 (bitField (byteAt r 3) 0 4)
    winSize := size
    winBase := base
    dayLength := dayLengthOf (byteAt r 6)
    startMinute := min 1439 (bitField m 45 11)
    timeMark := clamp 1 10 (bitField (byteAt r 4) 4 4)
    dawnStart := curve.1
    dawnLength := curve.2.1
    duskStart := curve.2.2.1
    duskLength := curve.2.2.2
    nightFloor := min 500 (2 * byteAt r 14)
    occThreshold := clamp 1 50 (bitField (byteAt r 15) 0 6)
    tripCurrent := clamp 500 3000 (20 * byteAt r 16)
    slots := (List.range 8).map (slotAt r base)
    holdTime := clamp 5 60 (bitField (byteAt r 2) 0 6)
    accStep := clamp 1 100 (byteAt r 17)
    approach := clamp 1 1000 (4 * byteAt r 18)
    showLevel := levelDescAt r 24
    economyLevel := levelDescAt r 27
    restLevel := levelDescAt r 30
    startLevel := startLevelOf (bitField (byteAt r 15) 6 2)
    warnTemp := warn
    critTemp := clamp (warn + 10) 140 (byteAt r 20)
    lamps := (List.range 16).map (lampAt r)
    groupA := groupAt r 0
    groupB := groupAt r 1
    groupC := groupAt r 2
    groupD := groupAt r 3
    rot0 := rotAt r 0
    rot1 := rotAt r 1
    listen := (List.range 8).map (listenAt r)
    mask := FaultSet.ofNumber (num2 r 21) }

/-! ### Settings read by name -/

/-- The descriptor of a power level. -/
def Settings.desc (st : Settings) : PowerLevel → LevelDesc
  | .show => st.showLevel
  | .economy => st.economyLevel
  | .rest => st.restLevel

/-- The mood of a lamp group. -/
def Settings.group (st : Settings) : Group → GroupCfg
  | .a => st.groupA
  | .b => st.groupB
  | .c => st.groupC
  | .d => st.groupD

/-- The settings of a rotary channel. -/
def Settings.rot (st : Settings) : Chan → RotCfg
  | .ch0 => st.rot0
  | .ch1 => st.rot1

/-- A slot beyond the record's eight: no neighbours, no sensors. -/
def SlotCfg.absent : SlotCfg :=
  { rising := none, falling := none, risingCode := 0, fallingCode := 0, risingPresent := false,
    fallingPresent := false, extended := false }

/-- The settings of an own block by its number. -/
def Settings.slot (st : Settings) (block : Nat) : SlotCfg := st.slots.getD (block - st.winBase) .absent

/-- The block lies in the own window (R35). -/
def Settings.owns (st : Settings) (block : Nat) : Bool :=
  st.winBase ≤ block && block < st.winBase + st.winSize

/-- The number of configured lamp channels (R125). -/
def Settings.lampCount (st : Settings) : Nat := (st.lamps.filter fun l => l.configured).length

/-- The number of configured rotary channels (R144). -/
def Settings.rotaryCount (st : Settings) : Nat :=
  (if st.rot0.configured then 1 else 0) + (if st.rot1.configured then 1 else 0)

/-- The start time of the scene day (R44). -/
def Settings.startTime (st : Settings) : Nat := st.startMinute * 60000

end Sys2Proof.Machine
end

