-- ==== Sys2Proof/Machine/Daylight.lean ====
section
/-! DEFINITION. Scene time: the day, the forward interval, the phase and the daylight level (R43, R56, R57, R128). -/

namespace Sys2Proof.Machine

/-- Scene milliseconds of one scene day (R43). -/
def dayMs : Nat := 86400000

/-- Scene milliseconds of one scene minute. -/
def minuteMs : Nat := 60000

/-- The scene minute of a scene time. -/
def minuteOf (t : Nat) : Nat := t / minuteMs

/-- The point `p` lies in the forward interval that starts just after `a`, ends at `b` and includes it, and runs forward
round the day; the interval from a time to the same time is empty (R128). -/
def inForward (a b p : Nat) : Bool :=
  if a ≤ b then a < p && p ≤ b else a < p || p ≤ b

/-- The phase at scene time `t` (R56). -/
def phaseAt (st : Settings) (t : Nat) : Phase :=
  let dawn := st.dawnStart * minuteMs
  let day := (st.dawnStart + st.dawnLength) * minuteMs
  let dusk := st.duskStart * minuteMs
  let night := (st.duskStart + st.duskLength) * minuteMs
  if dawn ≤ t ∧ t < day then .dawn
  else if day ≤ t ∧ t < dusk then .day
  else if dusk ≤ t ∧ t < night then .dusk
  else .night

/-- The start of a phase in scene ms; none is needed for Night (R56). -/
def phaseStart (st : Settings) : Phase → Nat
  | .dawn => st.dawnStart * minuteMs
  | .day => (st.dawnStart + st.dawnLength) * minuteMs
  | .dusk => st.duskStart * minuteMs
  | .night => 0

/-- The daylight level at scene time `t` (R57): `e` is the number of whole scene seconds since the phase start. -/
def daylightAt (st : Settings) (t : Nat) : Nat :=
  let e := (t - phaseStart st (phaseAt st t)) / 1000
  match phaseAt st t with
  | .night => st.nightFloor
  | .dawn => st.nightFloor + (1000 - st.nightFloor) * e / (st.dawnLength * 60)
  | .day => 1000
  | .dusk => 1000 - (1000 - st.nightFloor) * e / (st.duskLength * 60)

/-- How many left-behind scene times the clock keeps for the readings at start bits (log 7). -/
def recentLimit : Nat := 9

/-- The clock with its scene time moved to `t`: phase and daylight level are recomputed and published with it (R57), and
the time left behind is kept for the readings at start bits (R9, log 7). -/
def Clock.moveTo (st : Settings) (t : Nat) (c : Clock) : Clock :=
  { c with time := t, phase := phaseAt st t, daylight := daylightAt st t
           recent := (c.time :: c.recent).take recentLimit }

/-- The scene time read at a start bit after which `moves` movements of scene time took place (R9, R47). -/
def Clock.timeBefore (c : Clock) (moves : Nat) : Nat := (c.time :: c.recent).getD moves c.time

end Sys2Proof.Machine
end

