-- ==== Sys2Proof/Config.lean ====
section
/-! DEFINITION. What the spec leaves open, as constants without a body: nothing in Lean can evaluate them or prove a
value of them, so a claim that holds of the model holds whatever they are. -/

namespace Sys2Proof

/-- R12: "Two offers made at the same moment by different blocks are taken in either order." The n-th such choice:
true takes the first-named block first. DESIGN CHOICE (log 6): safe, no order is chosen. -/
opaque Config.offerOrder : Nat → Bool

/-- R12: the place of one block's offer among the offers another block makes in the same event, counted in messages from
the first of them. The n-th such place. DESIGN CHOICE (log 6): safe, no order is chosen. -/
opaque Config.offerPlace : Nat → Nat

/-- The destination of a Release for a Granted claim that has no owner station yet (R81, R92 with R97: a late Grant
made a never-sent claim Granted); the spec does not say it. The n-th such value. DESIGN CHOICE (log 9): safe. -/
opaque Config.freeStation : Nat → Fin 64

end Sys2Proof
end

