-- ==== Sys2Proof/Machine/Flags.lean ====
section
/-! DEFINITION. Counting in a line counter (R24) and the flags of the fault sets (R183, R184). -/

namespace Sys2Proof.Machine

/-- A counted event: 1 more below 255; at 255 the saturated mark is set instead (R24). -/
def Counter.bump (c : Counter) : Counter :=
  if c.count < 255 then { c with count := c.count + 1 } else { c with saturated := true }

/-- The named counter. -/
def Counters.get (c : Counters) : CounterName → Counter
  | .checkErr => c.checkErr
  | .framing => c.framing
  | .cut => c.cut
  | .malformed => c.malformed
  | .overrun => c.overrun
  | .shed => c.shed
  | .collisions => c.collisions
  | .giveUps => c.giveUps
  | .outDrop => c.outDrop

/-- One counted event in the named counter (R24). -/
def Counters.bump (c : Counters) : CounterName → Counters
  | .checkErr => { c with checkErr := c.checkErr.bump }
  | .framing => { c with framing := c.framing.bump }
  | .cut => { c with cut := c.cut.bump }
  | .malformed => { c with malformed := c.malformed.bump }
  | .overrun => { c with overrun := c.overrun.bump }
  | .shed => { c with shed := c.shed.bump }
  | .collisions => { c with collisions := c.collisions.bump }
  | .giveUps => { c with giveUps := c.giveUps.bump }
  | .outDrop => { c with outDrop := c.outDrop.bump }

/-- The counters in the order of the Counters report (R182). -/
def Counters.list (c : Counters) : List Counter :=
  [c.checkErr, c.framing, c.cut, c.malformed, c.overrun, c.shed, c.collisions, c.giveUps, c.outDrop]

/-- The flag of a class. -/
def FaultSet.get (f : FaultSet) : FaultClass → Bool
  | .lineStuck => f.lineStuck
  | .clash => f.clash
  | .warm => f.warm
  | .trip => f.trip
  | .stall => f.stall
  | .short => f.short
  | .intrusion => f.intrusion
  | .heldAbandoned => f.heldAbandoned
  | .listFull => f.listFull

/-- The set with the flag of one class made `v`. -/
def FaultSet.set (f : FaultSet) (k : FaultClass) (v : Bool) : FaultSet :=
  match k with
  | .lineStuck => { f with lineStuck := v }
  | .clash => { f with clash := v }
  | .warm => { f with warm := v }
  | .trip => { f with trip := v }
  | .stall => { f with stall := v }
  | .short => { f with short := v }
  | .intrusion => { f with intrusion := v }
  | .heldAbandoned => { f with heldAbandoned := v }
  | .listFull => { f with listFull := v }

/-- At least one flag is set. -/
def FaultSet.any (f : FaultSet) : Bool :=
  f.lineStuck || f.clash || f.warm || f.trip || f.stall || f.short || f.intrusion || f.heldAbandoned || f.listFull

/-- The momentary classes (R183); the others are condition classes. -/
def FaultClass.momentary : FaultClass → Bool
  | .short | .intrusion | .heldAbandoned | .listFull => true
  | _ => false

/-- The set with the flags of the four momentary classes cleared (R179). -/
def FaultSet.clearMomentary (f : FaultSet) : FaultSet :=
  { f with short := false, intrusion := false, heldAbandoned := false, listFull := false }

end Sys2Proof.Machine
end

