-- ==== Sys2Proof/Machine/Ops.lean ====
section
/-! DEFINITION. The operations every block shares: counting, offering a message (R12, R13, R14), the inbound queue (R10,
R11), raising and ending a fault class (R183, R185), and the choice of order R12 leaves open. -/

namespace Sys2Proof.Machine

/-! ### Station state -/

/-- The station is Listening or Running: its blocks take steps, messages and samples. -/
def State.active (s : State) : Bool :=
  s.loader.station == .listening || s.loader.station == .running

/-- The station is Running. -/
def State.isRunning (s : State) : Bool := s.loader.station == .running

/-! ### Line counters -/

/-- One counted event in a line counter (R24). -/
def count (c : CounterName) (s : State) : State := { s with counters := s.counters.bump c }

/-! ### Outbound queues -/

/-- How many messages an outbound queue holds. -/
def OutQueue.length (q : OutQueue) : Nat :=
  match q.head with
  | none => 0
  | some _ => q.rest.length + 1

/-- A message that becomes head: attempt count 1, remaining slots 0 if urgent and 2 if routine, not in hand (R14). It
begins counting at the next slot boundary (R15). -/
def newHead (m : OutMsg) : Head :=
  { msg := m, attempt := 1, slots := if m.kind.urgent then 0 else 2, inHand := false, counting := false }

/-- The queue with a message added at its tail (R12, R13, R14). -/
def OutQueue.push (q : OutQueue) (m : OutMsg) : OutQueue :=
  match q.head with
  | none => { head := some (newHead m), rest := [] }
  | some _ => { q with rest := q.rest ++ [m] }

/-- The queue after its head has left: the next message becomes head (R14). -/
def OutQueue.pop (q : OutQueue) : OutQueue :=
  match q.rest with
  | [] => .empty
  | m :: ms => { head := some (newHead m), rest := ms }

/-- The kinds of which the routine queue holds at most one message (R13). -/
def Kind.single : Kind → Bool
  | .timeMark | .announce => true
  | _ => false

/-- A message of the kind is queued and in hand (R13). -/
def OutQueue.inHand (q : OutQueue) (k : Kind) : Bool :=
  match q.head with
  | some h => h.inHand && h.msg.kind == k
  | none => false

/-- A message of the kind is queued but not in hand (R13). -/
def OutQueue.waiting (q : OutQueue) (k : Kind) : Bool :=
  (match q.head with
   | some h => !h.inHand && h.msg.kind == k
   | none => false) || q.rest.any fun m => m.kind == k

/-- The queue with its messages of the kind of `m`, not in hand, replaced by `m` in their place (R13). -/
def OutQueue.replace (q : OutQueue) (m : OutMsg) : OutQueue :=
  { head := q.head.map fun h => if !h.inHand && h.msg.kind == m.kind then { h with msg := m } else h
    rest := q.rest.map fun x => if x.kind == m.kind then m else x }

/-- What becomes of an offer while the station is Running (R12, R13). -/
inductive OfferFate where
  /-- Added at the tail of the queue of its class. -/
  | added
  /-- Takes the place of the queued message of its kind. -/
  | replaced
  /-- Discarded without count: the message of its kind is in hand. -/
  | discarded
  /-- Dropped by a full queue: OutDrop counts 1 and the offering block is told. -/
  | dropped
  deriving DecidableEq, Repr

/-- How many messages the urgent queue holds at most (R12). -/
def urgentLimit : Nat := 4

/-- How many messages the routine queue holds at most (R13). -/
def routineLimit : Nat := 6

/-- The fate of an offer to a line controller that accepts offers (R12, R13). -/
def Line.offerFate (l : Line) (m : OutMsg) : OfferFate :=
  if m.kind.urgent then
    if l.urgent.length < urgentLimit then .added else .dropped
  else if m.kind.single && l.routine.waiting m.kind then .replaced
  else if m.kind.single && l.routine.inHand m.kind then .discarded
  else if l.routine.length < routineLimit then .added
  else .dropped

/-- The line controller after an offer it accepted (R12, R13). -/
def Line.offered (l : Line) (m : OutMsg) : Line :=
  match l.offerFate m with
  | .added =>
    if m.kind.urgent then { l with urgent := l.urgent.push m } else { l with routine := l.routine.push m }
  | .replaced => { l with routine := l.routine.replace m }
  | .discarded => l
  | .dropped => l

/-- A block offers a message (R12): taken while Running, discarded without count in any other station state. -/
def offer (m : OutMsg) (s : State) : State :=
  if s.isRunning then
    { s with line := s.line.offered m
             counters := if s.line.offerFate m = .dropped then s.counters.bump .outDrop else s.counters }
  else s

/-- A message without a ticket. -/
def outMsg (dest : Nat) (kind : Kind) (body : List Byte) : OutMsg :=
  { dest := dest, kind := kind, body := body, ticket := none }

/-! ### Inbound queue -/

/-- The inbound queue holds at most 8 messages (R10). -/
def inboundLimit : Nat := 8

/-- The inbound queue is near full from 6 messages on (R10). -/
def nearFull : Nat := 6

/-- A valid message is offered to the inbound queue (R10). -/
def offerInbound (m : InMsg) (s : State) : State :=
  let n := s.line.inbound.length
  let added := { s with line := { s.line with inbound := s.line.inbound ++ [m] } }
  if m.kind.urgent then
    if n < inboundLimit then added else count .overrun s
  else if n < nearFull then added else count .shed s

/-- The head of the inbound queue is handed to the block that owns its kind, if the station is at work and the head is
a message this taking is for; the message leaves the queue (R11). Otherwise nothing happens (log 2). -/
def takeMessage (mine : InMsg → Bool) (f : InMsg → State → State) (s : State) : State :=
  match s.line.inbound with
  | m :: rest =>
    if s.active && mine m then f m { s with line := { s.line with inbound := rest } } else s
  | [] => s

/-- The taking block finds a malformed field: the message is discarded and Malformed counts 1 (R11). -/
def malformed (s : State) : State := count .malformed s

/-- The effect of a message whose body was read, or the count of a malformed one (R11, R198). -/
def withBody {α : Type} (body : Option α) (f : α → State → State) (s : State) : State :=
  match body with
  | some x => f x s
  | none => malformed s

/-! ### The order R12 leaves open -/

/-- Two parts of one event that may each offer messages, by different blocks at the same moment: taken in either order
(R12). Which order is a free choice (log 6). -/
def inEitherOrder (f g : State → State) (s : State) : State :=
  let s' := { s with freeCount := s.freeCount + 1 }
  if Config.offerOrder s.freeCount then g (f s') else f (g s')

/-- A queue with a message put in at place `i`, the messages from there on one place later (R12). Put in at the place of
a head that this event made, it becomes head itself. -/
def OutQueue.insertAt (i : Nat) (m : OutMsg) (q : OutQueue) : OutQueue :=
  match q.head, i with
  | none, _ => q.push m
  | some h, 0 => { head := some (newHead m), rest := h.msg :: q.rest }
  | some _, i + 1 => { q with rest := q.rest.take i ++ m :: q.rest.drop i }

/-- A queue cut back to `n` messages, the newest of them lost. -/
def OutQueue.cutTo (n : Nat) (q : OutQueue) : OutQueue := { q with rest := q.rest.take (n - 1) }

/-- Routine messages of one block, offered in their order and each at any place among the routine offers that stand from
place `lo` on, which are those another block has made in the same event (R12). The places are free choices (log 6). The
message that finds the queue full is the last of the order so made; OutDrop counts it (R13). Only kinds of which several
may be queued are offered so. -/
def offerAmong (lo : Nat) (msgs : List OutMsg) (s : State) : State :=
  match msgs with
  | [] => s
  | m :: rest =>
    if s.isRunning then
      let q := s.line.routine
      let i := min q.length (lo + Config.offerPlace s.freeCount)
      let s' : State :=
        { s with line := { s.line with routine := (q.insertAt i m).cutTo (max routineLimit q.length) }
                 counters := if q.length < routineLimit then s.counters else s.counters.bump .outDrop
                 freeCount := s.freeCount + 1 }
      offerAmong (i + 1) rest s'
    else s

/-! ### Fault classes -/

/-- The Fault notice of a start of a class (R185): a routine message to station 0 naming the class and the detail. -/
def faultNoticeMsg (k : FaultClass) (detail : Nat) : OutMsg :=
  outMsg 0 .faultNotice (toByte k.code :: bytes2 detail)

/-- The active flag and the new flag of a class are set (R183). -/
def raiseFlags (k : FaultClass) (s : State) : State :=
  { s with faults := { active := s.faults.active.set k true, fresh := s.faults.fresh.set k true } }

/-- The notice of a start of a class, or none if the mask holds the class (R185). -/
def State.noticeOf (s : State) (k : FaultClass) (detail : Nat) : List OutMsg :=
  if s.settings.mask.get k then [] else [faultNoticeMsg k detail]

/-- A block raises a fault class (R183, R185): its flags are set and its notice, unless masked, is offered. -/
def raiseFault (k : FaultClass) (detail : Nat) (s : State) : State :=
  (s.noticeOf k detail).foldl (fun s m => offer m s) (raiseFlags k s)

/-- The owning block ends a condition class: its active flag is cleared, its new flag left (R183). -/
def endFault (k : FaultClass) (s : State) : State :=
  { s with faults := { s.faults with active := s.faults.active.set k false } }

end Sys2Proof.Machine
end

