-- ==== Sys2Proof/Machine/Lamps.lean ====
section
/-! DEFINITION. The lamp engine (07): overrides, the lamp step, the trip; the commands LAMP_ORDER_SET, LAMP_ORDER_CLEAR
and LAMP_STEP. -/

namespace Sys2Proof.Machine

/-! ### Groups -/

/-- The record of a group. -/
def Lamps.group (l : Lamps) : Group → LampGroup
  | .a => l.a
  | .b => l.b
  | .c => l.c
  | .d => l.d

/-- The engine with one group's record changed. -/
def Lamps.setGroup (l : Lamps) (g : Group) (x : LampGroup) : Lamps :=
  match g with
  | .a => { l with a := x }
  | .b => { l with b := x }
  | .c => { l with c := x }
  | .d => { l with d := x }

/-- The engine with every group's record changed. -/
def Lamps.mapGroups (l : Lamps) (f : Group → LampGroup → LampGroup) : Lamps :=
  { l with a := f .a l.a, b := f .b l.b, c := f .c l.c, d := f .d l.d }

/-! ### Overrides -/

/-- The override at scene time `now`: removed when its until point lies in the forward interval from its last seen time,
otherwise last seen at `now` (R128). An override without an until-time is not touched. -/
def Override.watch (now : Nat) (o : Override) : Option Override :=
  match o.ending with
  | none => some o
  | some (minute, seen) =>
    if inForward seen now (minute * minuteMs) then none else some { o with ending := some (minute, now) }

/-- Every group's override watched at scene time `now`: stage 1 of the lamp step (R128) and the jump notice (R129). -/
def Lamps.watchOverrides (now : Nat) (l : Lamps) : Lamps :=
  l.mapGroups fun _ x => { x with override := x.override.bind (Override.watch now) }

/-- A set order: the group has an override with the level and, if given, the until-time, last seen at `seen` (R138). -/
def lampSet (g : Group) (level : Nat) (untilTime : Option Nat) (seen : Nat) (s : State) : State :=
  let o : Override := { level := level, ending := untilTime.map fun u => (u, seen) }
  { s with lamps := s.lamps.setGroup g { s.lamps.group g with override := some o } }

/-- A set action of a cue taken across a jump (R140): last seen at the cue's trigger point, then watched at the present
scene time. -/
def lampSetAcross (g : Group) (level : Nat) (untilTime : Option Nat) (trigger : Nat) (s : State) : State :=
  let o : Override := { level := level, ending := untilTime.map fun u => (u, trigger) }
  { s with lamps := s.lamps.setGroup g { s.lamps.group g with override := o.watch s.clock.time } }

/-- A clear order: the group has no override (R139). -/
def lampClear (g : Group) (s : State) : State :=
  { s with lamps := s.lamps.setGroup g { s.lamps.group g with override := none } }

/-! ### Lamp orders -/

/-- The until-time field of a Lamp order: 65,535 absent, otherwise lowered to 1439 (R137, R198). -/
def untilOf (n : Nat) : Option Nat := if n = 65535 then none else some (min 1439 n)

/-- The action code of a Lamp order: 1 set, 2 clear. -/
def lampActionOf (m : InMsg) : Nat := byteAt m.body 1

/-- The head is a Lamp order for this command: its action is `code`, or names neither set nor clear and is malformed
whichever command takes it (log 10). -/
def isLampOrder (code : Nat) (m : InMsg) : Bool :=
  m.kind == .lampOrder && (lampActionOf m == code || !(lampActionOf m == 1 || lampActionOf m == 2))

/-- The group of a well-formed Lamp order of this action (R137). -/
def lampOrderGroup (code : Nat) (m : InMsg) : Option Group :=
  if lampActionOf m = code then Group.ofCode (byteAt m.body 0) else none

/-- A taken set Lamp order (R137, R138). -/
def takeLampSet (m : InMsg) (s : State) : State :=
  withBody (lampOrderGroup 1 m)
    (fun g s => lampSet g (min 1000 (num2 m.body 2)) (untilOf (num2 m.body 4)) s.clock.time s) s

/-- A taken clear Lamp order (R137, R139). -/
def takeLampClear (m : InMsg) (s : State) : State :=
  withBody (lampOrderGroup 2 m) lampClear s

/-- LAMP_ORDER_SET (R138). -/
def execLampOrderSet (s : State) : Host.Outcome State Fault Refusal :=
  .next (takeMessage (isLampOrder 1) takeLampSet s)

/-- LAMP_ORDER_CLEAR (R139). -/
def execLampOrderClear (s : State) : Host.Outcome State Fault Refusal :=
  .next (takeMessage (isLampOrder 2) takeLampClear s)

/-! ### The lamp step -/

/-- The latch of a group after stage 2 (R130): updated in Dusk switch mode alone, clear in any other. -/
def latchAfter (c : GroupCfg) (daylight : Nat) (latch : Bool) : Bool :=
  match c.mode with
  | .duskSwitch => if daylight < c.onThreshold then true else if c.offThreshold < daylight then false else latch
  | _ => false

/-- The level a group's mood asks for (R131). -/
def moodLevel (c : GroupCfg) (latch : Bool) (daylight : Nat) : Nat :=
  match c.mode with
  | .daylight => daylight * c.gain / 1000
  | .night => (1000 - daylight) * c.gain / 1000
  | .duskSwitch => if latch then c.onLevel else 0
  | .fixed => c.onLevel
  | .off => 0

/-- The requested level of a group (R131): its override's level, or its mood's, clamped to 0..1000. -/
def requestedLevel (c : GroupCfg) (x : LampGroup) (daylight : Nat) : Nat :=
  min 1000 (match x.override with
    | some o => o.level
    | none => moodLevel c x.latch daylight)

/-- A value moved toward a target by at most `step`, stopping at the target without passing it (R82, R132, R145). -/
def moveToward (target step n : Nat) : Nat :=
  if n ≤ target then min target (n + step) else max target (n - step)

/-- The wanted duty of a present level (R133). -/
def wantedDuty (present : Nat) : Nat := present * present / 1000

/-- Stages 3 to 5 for one channel: requested level, present level (0 while the trip mark is set), wanted duty. An
unconfigured channel stays at 0 (R125). -/
def lampFade (st : Settings) (l : Lamps) (daylight : Nat) (c : LampCfg) (x : LampChannel) : LampChannel :=
  if c.configured then
    let want := requestedLevel (st.group c.group) (l.group c.group) daylight
    let present := if l.tripMark then 0 else moveToward want (st.group c.group).fade x.present
    { x with requested := want, present := present, wanted := wantedDuty present }
  else .dark

/-- The demand over all configured channels, in microamperes (R134). -/
def lampDemand (cfg : List LampCfg) (chs : List LampChannel) : Nat :=
  (List.zipWith (fun (c : LampCfg) (x : LampChannel) => if c.configured then x.wanted * c.fullScale else 0) cfg chs).sum

/-- The scale, out of 1024 (R134). -/
def lampScale (demand allowance : Nat) : Nat :=
  if demand = 0 then 1024 else min 1024 (allowance * 1000 * 1024 / demand)

/-- Stages 1 to 7 of the lamp step (R127 to R135). -/
def lampStep (s : State) : State :=
  let l := s.lamps.watchOverrides s.clock.time
  let l := l.mapGroups fun g x => { x with latch := latchAfter (s.settings.group g) s.clock.daylight x.latch }
  let chs := List.zipWith (lampFade s.settings l s.clock.daylight) s.settings.lamps l.channels
  let scale := lampScale (lampDemand s.settings.lamps chs) s.gov.allowance
  { s with lamps := { l with channels := chs.map fun x => { x with duty := x.wanted * scale / 1024 } } }

/-- LAMP_STEP (R127): taken while the station is Listening or Running. -/
def execLampStep (s : State) : Host.Outcome State Fault Refusal :=
  .next (if s.active then lampStep s else s)

/-! ### Trip -/

/-- The trip reaches the lamp engine (R141): present levels and duties become 0, the trip mark is set. -/
def Lamps.trip (l : Lamps) : Lamps :=
  { l with channels := l.channels.map fun x => { x with present := 0, wanted := 0, duty := 0 }
           tripMark := true }

/-- The end of the trip reaches the lamp engine (R142). -/
def Lamps.tripEnd (l : Lamps) : Lamps := { l with tripMark := false }

end Sys2Proof.Machine
end

