-- ==== Sys2Proof/Machine/Rotaries.lean ====
section
/-! DEFINITION. The rotary unit (08): requests, admission, ramps, counting, stall, level change, trip; the commands
ROTARY_ORDER_RUN, ROTARY_ORDER_STOP, ROTARY_ORDER_CLEAR, ROTARY_STEP, INDEX_PULSE, HELD_TIMER_EXPIRY and
STALL_TIMER_EXPIRY. -/

namespace Sys2Proof.Machine

/-! ### Channels -/

/-- The record of a channel. -/
def RotaryUnit.get (u : RotaryUnit) : Chan → Rotary
  | .ch0 => u.ch0
  | .ch1 => u.ch1

/-- The unit with one channel's record changed. -/
def RotaryUnit.set (u : RotaryUnit) (c : Chan) (r : Rotary) : RotaryUnit :=
  match c with
  | .ch0 => { u with ch0 := r }
  | .ch1 => { u with ch1 := r }

/-- The unit with both records changed. -/
def RotaryUnit.map (f : Rotary → Rotary) (u : RotaryUnit) : RotaryUnit := { ch0 := f u.ch0, ch1 := f u.ch1 }

/-- The state with one channel's record changed. -/
def setRotary (c : Chan) (r : Rotary) (s : State) : State := { s with rotary := s.rotary.set c r }

/-- The states that count in the rotary reserved current (R117). -/
def RotState.inMotion : RotState → Bool
  | .starting | .running | .stopping | .seeking => true
  | _ => false

/-- The run current a channel has in Q (R117): its whole run current while it is in motion. -/
def Rotary.reserve (c : RotCfg) (r : Rotary) : Nat :=
  if c.configured && r.state.inMotion then c.runCurrent else 0

/-- The rotary reserved current Q (R117). -/
def State.rotaryQ (s : State) : Nat :=
  s.rotary.ch0.reserve s.settings.rot0 + s.rotary.ch1.reserve s.settings.rot1

/-- The Held time, in ms (R147, R150). -/
def heldMs : Nat := 30000

/-- The stall timer at its start, in ms (R154). -/
def RotCfg.stallMs (c : RotCfg) : Nat := c.stallTimeout * 1000

/-- At least one channel is Stalled (R154). -/
def RotaryUnit.anyStalled (u : RotaryUnit) : Bool := u.ch0.state == .stalled || u.ch1.state == .stalled

/-! ### Requests -/

/-- The governor's answer to an admission question (R119): the level permits rotaries and it is not Tripped. -/
def State.rotaryAllowed (s : State) : Bool :=
  (s.settings.desc s.gov.level).rotaries && s.gov.temp != .tripped

/-- A Run of `n` revolutions taken by the channel's state (R147); `yes` answers the admission question. -/
def Rotary.run (n : Nat) (yes : Bool) (r : Rotary) : Rotary :=
  match r.state with
  | .parked => { r with state := .held, remaining := n, parkOnly := false, heldTimer := some heldMs }
  | .held =>
    if r.heldTimer.isSome then { r with remaining := n, heldTimer := some heldMs }
    else { r with remaining := n, parkOnly := false }
  | .starting => { r with remaining := n }
  | .running => { r with remaining := n }
  | .stopping | .seeking =>
    if yes then { r with state := .starting, remaining := n, stallTimer := none }
    else { r with state := .held, remaining := n, drive := 0, stallTimer := none, heldTimer := none, parkOnly := false }
  | .stalled => r
  | .halted => { r with remaining := n, parkOnly := false }

/-- A Stop taken by the channel's state (R148). -/
def Rotary.stop (r : Rotary) : Rotary :=
  match r.state with
  | .held =>
    if r.heldTimer.isSome then { r with state := .parked, remaining := 0, heldTimer := none }
    else if r.parkOnly then r
    else { r with parkOnly := true, remaining := 0 }
  | .starting | .running => { r with state := .stopping, remaining := 0, stallTimer := none }
  | .halted => { r with parkOnly := true, remaining := 0 }
  | .parked | .stopping | .seeking | .stalled => r

/-- A request is taken at all: the channel is configured and the station is Running (R146). -/
def State.takesRequest (s : State) (c : Chan) : Bool := s.isRunning && (s.settings.rot c).configured

/-- A Run request of `n` revolutions (R146, R147): a Stalled channel ignores it and raises Stall again (R154). -/
def rotaryRun (c : Chan) (n : Nat) (s : State) : State :=
  if s.takesRequest c then
    if (s.rotary.get c).state = .stalled then raiseFault .stall (chanNumber c) s
    else setRotary c ((s.rotary.get c).run n s.rotaryAllowed) s
  else s

/-- A Stop request (R146, R148). -/
def rotaryStop (c : Chan) (s : State) : State :=
  if s.takesRequest c then setRotary c (s.rotary.get c).stop s else s

/-- A Clear request (R146, R149): a Stalled channel becomes Parked; Stall ends when no channel is Stalled any longer. -/
def rotaryClear (c : Chan) (s : State) : State :=
  if s.takesRequest c && (s.rotary.get c).state == .stalled then
    let s := setRotary c { s.rotary.get c with state := .parked, drive := 0, remaining := 0, parkOnly := false } s
    if s.rotary.anyStalled then s else endFault .stall s
  else s

/-! ### Rotary orders -/

/-- The action code of a Rotary order: 1 Run, 2 Stop, 3 Clear. -/
def rotaryActionOf (m : InMsg) : Nat := byteAt m.body 1

/-- The head is a Rotary order for this command: its action is `code`, or is none of the three and malformed whichever
command takes it (log 10). -/
def isRotaryOrder (code : Nat) (m : InMsg) : Bool :=
  m.kind == .rotaryOrder &&
    (rotaryActionOf m == code || !(rotaryActionOf m == 1 || rotaryActionOf m == 2 || rotaryActionOf m == 3))

/-- The channel of a well-formed Rotary order of this action (R146). -/
def rotaryOrderChan (code : Nat) (m : InMsg) : Option Chan :=
  if rotaryActionOf m = code then chanOfCode (byteAt m.body 0) else none

/-- A taken Run order (R146): revolutions above 255 are lowered to 255. -/
def takeRotaryRun (m : InMsg) (s : State) : State :=
  withBody (rotaryOrderChan 1 m) (fun c => rotaryRun c (min 255 (num2 m.body 2))) s

/-- A taken Stop order (R146). -/
def takeRotaryStop (m : InMsg) (s : State) : State := withBody (rotaryOrderChan 2 m) rotaryStop s

/-- A taken Clear order (R146). -/
def takeRotaryClear (m : InMsg) (s : State) : State := withBody (rotaryOrderChan 3 m) rotaryClear s

/-- ROTARY_ORDER_RUN (R147). -/
def execRotaryOrderRun (s : State) : Host.Outcome State Fault Refusal :=
  .next (takeMessage (isRotaryOrder 1) takeRotaryRun s)

/-- ROTARY_ORDER_STOP (R148). -/
def execRotaryOrderStop (s : State) : Host.Outcome State Fault Refusal :=
  .next (takeMessage (isRotaryOrder 2) takeRotaryStop s)

/-- ROTARY_ORDER_CLEAR (R149). -/
def execRotaryOrderClear (s : State) : Host.Outcome State Fault Refusal :=
  .next (takeMessage (isRotaryOrder 3) takeRotaryClear s)

/-! ### Ramps -/

/-- The rotary step of one channel (R145, R152): the drive moves toward the target of the state; Starting enters Running
at the run level, Stopping enters Seeking at the creep level, and the stall timer starts there (R154). -/
def Rotary.step (c : RotCfg) (r : Rotary) : Rotary :=
  if c.configured then
    match r.state with
    | .starting =>
      let drive := moveToward c.runLevel c.ramp r.drive
      if drive = c.runLevel then { r with state := .running, drive := drive, stallTimer := some c.stallMs }
      else { r with drive := drive }
    | .stopping =>
      let drive := moveToward c.creepLevel c.ramp r.drive
      if drive = c.creepLevel then { r with state := .seeking, drive := drive, stallTimer := some c.stallMs }
      else { r with drive := drive }
    | .seeking => { r with drive := moveToward c.creepLevel c.ramp r.drive }
    | .running => { r with drive := c.runLevel }
    | .parked | .held | .stalled | .halted => { r with drive := 0 }
  else r

/-- ROTARY_STEP (R145): taken while the station is Listening or Running. -/
def execRotaryStep (s : State) : Host.Outcome State Fault Refusal :=
  .next (if s.active then
    { s with rotary := { ch0 := s.rotary.ch0.step s.settings.rot0, ch1 := s.rotary.ch1.step s.settings.rot1 } }
  else s)

/-! ### Index pulses -/

/-- An index pulse taken by the channel's state (R153). -/
def Rotary.pulse (c : RotCfg) (r : Rotary) : Rotary :=
  match r.state with
  | .running =>
    if 1 < r.remaining then { r with remaining := r.remaining - 1, stallTimer := some c.stallMs }
    else if r.remaining = 1 then { r with remaining := 0, state := .stopping, stallTimer := none }
    else { r with stallTimer := some c.stallMs }
  | .seeking => { r with drive := 0, state := .parked, stallTimer := none }
  | .parked | .held | .starting | .stopping | .stalled | .halted => r

/-- INDEX_PULSE (R153): an unconfigured channel ignores its sensor (R144). -/
def execIndexPulse (c : Chan) (s : State) : Host.Outcome State Fault Refusal :=
  .next (if s.active && (s.settings.rot c).configured then
    setRotary c ((s.rotary.get c).pulse (s.settings.rot c)) s
  else s)

/-! ### Timers -/

/-- HELD_TIMER_EXPIRY (R150): a Held channel whose Held timer runs becomes Parked with remaining 0, and HeldAbandoned is
raised with the channel. -/
def execHeldTimerExpiry (c : Chan) (s : State) : Host.Outcome State Fault Refusal :=
  .next (if s.active && (s.rotary.get c).state == .held && (s.rotary.get c).heldTimer.isSome then
    raiseFault .heldAbandoned (chanNumber c)
      (setRotary c { s.rotary.get c with state := .parked, remaining := 0, heldTimer := none } s)
  else s)

/-- STALL_TIMER_EXPIRY (R154): a channel whose stall timer runs becomes Stalled, and Stall is raised with the channel. -/
def execStallTimerExpiry (c : Chan) (s : State) : Host.Outcome State Fault Refusal :=
  .next (if s.active && (s.rotary.get c).stallTimer.isSome then
    raiseFault .stall (chanNumber c)
      (setRotary c
        { s.rotary.get c with state := .stalled, drive := 0, remaining := 0, parkOnly := false, stallTimer := none } s)
  else s)

/-! ### Admission, level change and trip -/

/-- An admitted Held channel (R151): the Held timer is cancelled; ordinary enters Starting, park-only enters Seeking with
its mark clear and its stall timer started; drive 0. -/
def Rotary.admitted (c : RotCfg) (r : Rotary) : Rotary :=
  if r.parkOnly then
    { r with state := .seeking, parkOnly := false, drive := 0, heldTimer := none, stallTimer := some c.stallMs }
  else { r with state := .starting, drive := 0, heldTimer := none }

/-- The level no longer permits rotaries (R155): Starting and Running enter Stopping with no count left. -/
def Rotary.forbid (r : Rotary) : Rotary :=
  match r.state with
  | .starting | .running => { r with state := .stopping, remaining := 0, stallTimer := none }
  | .parked | .held | .stopping | .seeking | .stalled | .halted => r

/-- The trip reaches a channel (R156): a channel in motion is Halted, park-only if it was Stopping or Seeking. -/
def Rotary.trip (r : Rotary) : Rotary :=
  match r.state with
  | .starting | .running => { r with state := .halted, drive := 0, stallTimer := none, parkOnly := false }
  | .stopping | .seeking =>
    { r with state := .halted, drive := 0, stallTimer := none, parkOnly := true, remaining := 0 }
  | .parked | .held | .stalled | .halted => r

/-- The end of the trip reaches a channel (R157): a Halted channel becomes Held with no Held timer. -/
def Rotary.tripEnd (r : Rotary) : Rotary :=
  match r.state with
  | .halted => { r with state := .held, heldTimer := none }
  | .parked | .held | .starting | .running | .stopping | .seeking | .stalled => r

end Sys2Proof.Machine
end

