-- ==== Sys2Proof/Machine/Outputs.lean ====
section
/-! DEFINITION. What the outside sees of the station, computed from the state (log 20): boosters (R63), lamps (R135),
motors (R145), the fault lamp (R186). -/

namespace Sys2Proof.Machine

/-- What a booster applies (04, Shorts and boosters; R63): nothing, the sense level in Sensing or CoolOff, or a drive
level in a polarity. -/
inductive BoosterOut where
  | off
  | sensing
  | coolOff
  | driven (level : Nat) (polarity : Dir)
  deriving DecidableEq, Repr

/-- The record of a train, if the table holds one. -/
def TrainTable.find (t : TrainTable) (num : Nat) : Option Train := t.records.find? fun r => r.num == num

/-- The drive value and polarity a block record gives its booster (R63): none outside Reserved and Occupied. -/
def State.driveOf (s : State) (b : Block) : Option (Nat × Dir) :=
  match b.state with
  | .reserved r => some (r.level, r.dir)
  | .occupied num =>
    match s.trains.find num with
    | some t => some (t.present, t.dir)
    | none => some (0, .forward)
  | .free | .intruded | .blocked => none

/-- The booster of an own block (R63): off while the station is Loading or Unconfigured. -/
def State.booster (s : State) (b : Block) : BoosterOut :=
  if s.active then
    if b.coolOff.isSome then .coolOff
    else if s.gov.temp = .tripped then .sensing
    else match s.driveOf b with
      | some (value, dir) => .driven (min value (s.settings.desc s.gov.level).cap) dir
      | none => .sensing
  else .off

/-- The lamp outputs' duties, lowest channel first (R135); off while the station is Loading or Unconfigured (R125). -/
def State.lampOutputs (s : State) : List Nat :=
  if s.active then s.lamps.channels.map fun c => c.duty else s.lamps.channels.map fun _ => 0

/-- The motor output of a rotary channel: its drive level, and whether it turns anticlockwise (R145). -/
def State.motorOutput (s : State) (c : Chan) : Nat × Bool :=
  (if s.active then (s.rotary.get c).drive else 0, (s.settings.rot c).anticlockwise)

/-- The fault lamp (R186). -/
def State.faultLamp (s : State) : Bool := s.faults.active.any || s.loader.station == .unconfigured

/-- The show line as this station drives it: the bits of the attempt in progress, or the 22 bit times of space of a
break, true for mark (R1, R17). -/
def Line.drives (l : Line) : List Bool :=
  match l.tx with
  | .quiet => []
  | .sending _ chars => messageBits chars
  | .breaking => List.replicate 22 false

end Sys2Proof.Machine
end

