-- ==== Sys2Proof/Machine/Exits.lean ====
section
/-! DEFINITION. Lookups and small updates the track unit and the train table share: block records, exits (R81), the
state of a train record (R80), owner lookup (R38), block state notices (R64). -/

namespace Sys2Proof.Machine

/-! ### Block records -/

/-- The record of an own block. -/
def State.block (s : State) (b : Nat) : Option Block := s.blocks.find? fun r => r.number == b

/-- The state of an own block's record. -/
def State.blockState (s : State) (b : Nat) : Option BlockState := (s.block b).map fun r => r.state

/-- The state with one block record changed. -/
def updateBlock (b : Nat) (f : Block → Block) (s : State) : State :=
  { s with blocks := s.blocks.map fun r => if r.number = b then f r else r }

/-- The state with the state of one block record changed; what the old state named is discarded with it (R58). -/
def setBlockState (b : Nat) (st : BlockState) (s : State) : State := updateBlock b (fun r => { r with state := st }) s

/-- The numbers of the own blocks, ascending (R58). -/
def State.blockNumbers (s : State) : List Nat := s.blocks.map fun r => r.number

/-! ### Train records -/

/-- The state with one train's record changed. -/
def updateTrain (num : Nat) (f : Train → Train) (s : State) : State :=
  { s with trains := { s.trains with records := s.trains.records.map fun t => if t.num = num then f t else t } }

/-- The numbers of the recorded trains, ascending. -/
def State.trainNumbers (s : State) : List Nat := s.trains.records.map fun t => t.num

/-- The table holds a record of the train. -/
def State.hasTrain (s : State) (num : Nat) : Bool := s.trains.records.any fun t => t.num == num

/-- The pending claim of a train, if it has one (R94). -/
def State.claimOf (s : State) (num : Nat) : Option PClaim := s.trains.claims.find? fun c => c.train == num

/-- The exit of a record (R81): the neighbour of its head block in its direction; none if there is no neighbour. -/
def Train.exit (st : Settings) (t : Train) : Option Nat :=
  match t.trail with
  | [] => none
  | h :: _ =>
    match t.dir with
    | .forward => (st.slot h).rising
    | .reverse => (st.slot h).falling

/-- The claim is Granted. -/
def PClaim.isGranted (c : PClaim) : Bool :=
  match c.state with
  | .granted => true
  | _ => false

/-- The claim is Sent. -/
def PClaim.isSent (c : PClaim) : Bool :=
  match c.state with
  | .sent .. => true
  | _ => false

/-- A local exit `b` is held for a train (R81): Reserved by the train with the station itself as holder station, or
Occupied by it. -/
def State.holdsLocally (s : State) (num b : Nat) : Bool :=
  match s.blockState b with
  | some (.reserved r) => r.train == num && r.station == s.settings.station
  | some (.occupied t) => t == num
  | _ => false

/-- The train's pending claim for a remote block is Granted. -/
def State.holdsRemotely (s : State) (num b : Nat) : Bool :=
  s.trains.claims.any fun c => c.train == num && c.block == b && c.isGranted

/-- The exit of a record is held (R81); an exit of none is not. -/
def State.exitHeld (s : State) (t : Train) : Bool :=
  match t.exit s.settings with
  | none => false
  | some b => if s.settings.owns b then s.holdsLocally t.num b else s.holdsRemotely t.num b

/-- The exit of a record is local and held (R80). -/
def State.exitHeldLocally (s : State) (t : Train) : Bool :=
  match t.exit s.settings with
  | none => false
  | some b => s.settings.owns b && s.holdsLocally t.num b

/-- The states of a train record (R80). -/
inductive TrainState where
  | running | approaching | held | stopped | leaving
  deriving DecidableEq, Repr

/-- The state of a record: the first row that holds (R80). -/
def State.trainState (s : State) (t : Train) : TrainState :=
  if t.leaving then .leaving
  else if t.stopReached && !s.exitHeld t then .held
  else if t.target = 0 ∧ t.present = 0 then .stopped
  else if s.exitHeldLocally t then .running
  else .approaching

/-- A record that is Held has present speed 0 (R80). -/
def State.stopIfHeld (s : State) (t : Train) : Train :=
  if s.trainState t = .held then { t with present := 0 } else t

/-- The states of all records are derived afresh: a record that enters Held has its present speed made 0 (R80). -/
def rederive (s : State) : State :=
  { s with trains := { s.trains with records := s.trains.records.map s.stopIfHeld } }

/-- A record wants its exit: not Leaving, target above 0, and there is an exit (05, Asking for the exit). -/
def Train.wantsExit (st : Settings) (t : Train) : Bool := !t.leaving && 0 < t.target && (t.exit st).isSome

/-- An own block that the trail has dropped is still Occupied by the train (R105). -/
def State.hasDroppedBlock (s : State) (t : Train) : Bool :=
  s.blocks.any fun b => (match b.state with
    | .occupied n => n == t.num
    | _ => false) && !t.trail.contains b.number

/-- A block is a remote neighbour of an own block (R81). -/
def State.isRemoteNeighbour (s : State) (b : Nat) : Bool :=
  !s.settings.owns b && s.blockNumbers.any fun n =>
    (s.settings.slot n).rising == some b || (s.settings.slot n).falling == some b

/-- Foreign reservations: Reserved blocks whose holder train has no record here (R67). -/
def State.foreignCount (s : State) : Nat :=
  (s.blocks.filter fun b => match b.state with
    | .reserved r => !s.hasTrain r.train
    | _ => false).length

/-- Train records plus foreign reservations have reached their bound of 4 (R67). -/
def State.trackFull (s : State) : Bool := 4 ≤ s.trains.records.length + s.foreignCount

/-! ### Owner lookup -/

/-- What owner lookup gives (R38). -/
inductive Lookup where
  | unknown
  | found (station : Nat)
  | ambiguous
  deriving DecidableEq, Repr

/-- The window of a peer entry contains the block; a window of size 0 contains none. -/
def Peer.covers (p : Peer) (b : Nat) : Bool := p.base ≤ b && b < p.base + p.size

/-- Owner lookup from the entries as they stand: Fresh entries whose window contains the block (R38). -/
def State.lookupOwner (s : State) (b : Nat) : Lookup :=
  match s.peers.entries.filter fun p => p.fresh && p.covers b with
  | [] => .unknown
  | [p] => .found p.station
  | _ :: _ :: _ => .ambiguous

/-! ### Messages of the track unit and the train table -/

/-- The Block state broadcast (R64). -/
def blockStateMsg (own b : Nat) (st : BlockState) : OutMsg :=
  outMsg 0 .blockState [toByte b, toByte st.reported.code, toByte st.train, toByte own]

/-- The Grant to a remote requester, addressed to station 0 (R66). -/
def grantMsg (b train requester : Nat) : OutMsg := outMsg 0 .grant [toByte b, toByte train, toByte requester]

/-- A Refuse with its reason (R66, R74). -/
def refuseMsg (dest : Nat) (why : Reason) (b train : Nat) : OutMsg :=
  outMsg dest .refuse [toByte why.code, toByte b, toByte train]

/-- A Release naming block and train (R81, R97). -/
def releaseMsg (dest b train : Nat) : OutMsg := outMsg dest .release [toByte b, toByte train]

/-- A Claim message (R95), with the head block as origin, if there is one. -/
def claimMsg (dest b train level : Nat) (dir : Dir) (origin : Option Nat) (ticket : Nat) : OutMsg :=
  { dest := dest, kind := .claim
    body := [toByte b, toByte train] ++ bytes2 level ++
      [toByte dir.code, flagByte origin.isSome, toByte (origin.getD 0)]
    ticket := some ticket }

/-- A change of a block record's state to `st` is noticed by the own train table, which derives its states afresh, and
then broadcast (R64). -/
def noticeBlock (b : Nat) (st : BlockState) (s : State) : State :=
  offer (blockStateMsg s.settings.station b st) (rederive s)

/-- A block record changes its state, and the change is noticed and broadcast (R64). -/
def changeBlock (b : Nat) (st : BlockState) (s : State) : State := noticeBlock b st (setBlockState b st s)

end Sys2Proof.Machine
end

