-- ==== Sys2Proof/Machine/Claims.lean ====
section
/-! DEFINITION. Claims and what they move: the track unit's table of answers (R65), local Claims and Releases, the
pending-claim list (R94, R95), reversal (R106), removal (R92), entry, placement and vacancy at the train table (R88 to
R91). -/

namespace Sys2Proof.Machine

/-! ### The owner's answer -/

/-- The answer to a well-formed Claim (R65): no answer, a refusal, a new reservation, a refresh, or a Grant to the train
that already stands on the block. -/
inductive Answer where
  | silent
  | refuse (why : Reason)
  | reserve
  | refresh
  | standing
  deriving DecidableEq, Repr

/-- The table of situations, first row that holds (R65, R67). A block without a record lies outside the own window. -/
def State.answerTo (s : State) (b train requester : Nat) : Answer :=
  match s.block b with
  | none => .refuse .notOwner
  | some r =>
    if !s.isRunning then .silent
    else if r.coolOff.isSome then .refuse .blocked
    else match r.state with
      | .blocked => .refuse .blocked
      | .reserved v => if v.train = train ∧ v.station = requester then .refresh else .refuse .busy
      | .occupied t => if t = train then .standing else .refuse .occupied
      | .intruded => .refuse .occupied
      | .free => if !s.hasTrain train && s.trackFull then .refuse .full else .reserve

/-- The reservation hold time in ms (R67). -/
def Settings.holdMs (st : Settings) : Nat := st.holdTime * 1000

/-- What an answer does to the record (R65, R67, R68): a new reservation is noticed and broadcast, a refresh replaces what
the record holds and is neither. -/
def applyAnswer (a : Answer) (b : Nat) (v : Reservation) (s : State) : State :=
  match a with
  | .reserve => changeBlock b (.reserved v) s
  | .refresh => setBlockState b (.reserved v) s
  | .silent => s
  | .refuse _ => s
  | .standing => s

/-- A Release, remote or local: it frees a block Reserved by this train and requester and is ignored otherwise (R72). -/
def releaseBlock (b train requester : Nat) (s : State) : State :=
  match s.blockState b with
  | some (.reserved v) => if v.train = train ∧ v.station = requester then changeBlock b .free s else s
  | _ => s

/-- A local Claim of a train for its local exit `b` (R86): the present speed as level, the head block as origin. The
answer decides at once whether the exit is held. DEDUCED (log 37): a refused Claim changes nothing, so an exit still
Reserved for the train here, its booster in CoolOff, stays held by R81's words, against R86's "a Refuse leaves the exit
not held". -/
def localClaim (t : Train) (b : Nat) (s : State) : State :=
  let own := s.settings.station
  let v : Reservation :=
    { train := t.num, station := own, expiry := s.settings.holdMs, level := t.present, dir := t.dir
      origin := t.trail.head? }
  rederive (applyAnswer (s.answerTo b t.num own) b v s)

/-! ### The pending-claim list -/

/-- The retry wait in ms (R96). -/
def retryMs : Nat := 1000

/-- The answer timer in ms (R99). -/
def answerMs : Nat := 2000

/-- How many claims may be Sent (R94). -/
def sentLimit : Nat := 2

/-- View entries younger than this many speed steps hold a claim: 5 s (R95, R102). -/
def viewFreshSteps : Nat := 50

/-- The state with every claim of the train for the block changed; there is at most one (R94). -/
def updateClaim (train b : Nat) (f : PClaim → PClaim) (s : State) : State :=
  { s with trains := { s.trains with claims := s.trains.claims.map fun c =>
      (if c.train = train ∧ c.block = b then f c else c) } }

/-- The number of claims in Sent. -/
def State.sentCount (s : State) : Nat := (s.trains.claims.filter fun c => c.isSent).length

/-- A view entry speaks against a claim (R95): young, for its block, and showing it taken. -/
def ViewEntry.holds (c : PClaim) (e : ViewEntry) : Bool :=
  e.block == c.block && e.age < viewFreshSteps && (match e.state with
    | .occupied | .intruded | .blocked => true
    | .reserved => e.train != c.train
    | .free => false)

/-- A claim is free to go (R95): Queued with no retry wait and no owner wait, its record's target above 0, the line
Heard, one Fresh owner, and no young view entry against it. -/
def State.freeToGo (s : State) (c : PClaim) : Bool :=
  (match c.state with
    | .queued none none => true
    | _ => false) &&
  (match s.trains.find c.train with
    | some t => 0 < t.target
    | none => false) &&
  s.line.cond == .heard &&
  (match s.lookupOwner c.block with
    | .found _ => true
    | _ => false) &&
  !s.trains.view.any (ViewEntry.holds c)

/-- A claim is sent (R95): owner and level are set, the Claim is offered, and the claim is Sent. When the offer is
dropped by a full urgent queue the claim is Queued again with its retry wait (R96). -/
def sendClaim (c : PClaim) (s : State) : State :=
  match s.lookupOwner c.block, s.trains.find c.train with
  | .found owner, some t =>
    let level := min t.target s.settings.approach
    let ticket := s.trains.nextTicket
    let msg := claimMsg owner c.block c.train level t.dir t.trail.head? ticket
    let state : ClaimState :=
      if s.isRunning && s.line.offerFate msg == .dropped then .queued (some retryMs) none else .sent ticket none
    offer msg (updateClaim c.train c.block (fun c => { c with owner := some owner, level := level, state := state })
      { s with trains := { s.trains with nextTicket := ticket + 1 } })
  | _, _ => s

/-- One Queued claim is sent if it is free to go and fewer than 2 claims are Sent (R95). -/
def trySend (s : State) (c : PClaim) : State :=
  if s.sentCount < sentLimit && s.freeToGo c then sendClaim c s else s

/-- The Queued claims are gone through in creation order (R95). -/
def sendClaims (s : State) : State := s.trains.claims.foldl trySend s

/-- A Granted claim that ends is released to its owner station; a Queued or Sent claim ends without a message (R81). The
destination for a claim never sent is a free value (log 9). -/
def releaseClaim (s : State) (c : PClaim) : State :=
  if c.isGranted then
    match c.owner with
    | some o => offer (releaseMsg o c.block c.train) s
    | none =>
      offer (releaseMsg (Config.freeStation s.freeCount).val c.block c.train) { s with freeCount := s.freeCount + 1 }
  else s

/-- The claims that `gone` picks are removed from the list (R81). -/
def removeClaims (gone : PClaim → Bool) (s : State) : State :=
  (s.trains.claims.filter gone).foldl releaseClaim
    { s with trains := { s.trains with claims := s.trains.claims.filter fun c => !gone c } }

/-- A record that wants a remote exit and has no pending claim gets a Queued one at the end of the list (R87). -/
def requestRemote (s : State) (num : Nat) : State :=
  match s.trains.find num with
  | none => s
  | some t =>
    match t.exit s.settings with
    | none => s
    | some b =>
      if t.wantsExit s.settings && !s.settings.owns b && (s.claimOf num).isNone then
        let c : PClaim := { block := b, train := num, owner := none, level := 0, state := .queued none none }
        { s with trains := { s.trains with claims := s.trains.claims ++ [c] } }
      else s

/-- A record that wants a local exit claims it from the own track unit (R86). -/
def requestLocal (s : State) (num : Nat) : State :=
  match s.trains.find num with
  | none => s
  | some t =>
    match t.exit s.settings with
    | none => s
    | some b => if t.wantsExit s.settings && s.settings.owns b then localClaim t b s else s

/-- A wanted exit is asked for at once (R86, R87): a local one by a local Claim, a remote one by a new claim, and claims
are sent at its creation (R95). -/
def askExit (num : Nat) (s : State) : State :=
  let s := requestLocal s num
  let n := s.trains.claims.length
  let s := requestRemote s num
  if n < s.trains.claims.length then sendClaims s else s

/-! ### Exit changes and reversal -/

/-- The exit of a record has changed with its head (R81): the stop reached mark is cleared, a pending claim for another
block is removed, and the state is derived afresh. -/
def exitChanged (num : Nat) (s : State) : State :=
  let s := updateTrain num (fun t => { t with stopReached := false }) s
  match s.trains.find num with
  | none => s
  | some t => rederive (removeClaims (fun c => c.train == num && t.exit s.settings != some c.block) s)

/-- The three conditions under which a reversal is performed (R105). -/
def State.reversalReady (s : State) (t : Train) : Bool :=
  t.present == 0 && t.enteredFrom.isNone && !s.hasDroppedBlock t

/-- The target when a reversal is performed (R105): kept when it is performed at once, the resume speed if a pending one
kept one, 0 otherwise. -/
def Train.targetAfterReversal (t : Train) : Nat :=
  match t.reversal with
  | .none => t.target
  | .pending => 0
  | .resume v => v

/-- The record turned round (R106, steps 1 and 4). -/
def Train.reversed (t : Train) : Train :=
  { t with dir := t.dir.flip, trail := t.trail.reverse, stopReached := false, reversal := .none
           target := t.targetAfterReversal }

/-- The steps of a reversal (R106): the record turns round, a local reservation of the exit it had is released (log 15),
its pending claim is removed, the state is derived afresh. -/
def turnRound (num : Nat) (s : State) : State :=
  match s.trains.find num with
  | none => s
  | some t =>
    let s := updateTrain num Train.reversed s
    let s := match t.exit s.settings with
      | some b => releaseBlock b num s.settings.station s
      | none => s
    rederive (removeClaims (fun c => c.train == num) s)

/-- Performing a reversal (R106): the record turns round, and a wanted new exit is asked for at once. -/
def performReversal (num : Nat) (s : State) : State :=
  match s.trains.find num with
  | none => s
  | some _ => askExit num (turnRound num s)

/-- The record has a pending reversal whose conditions hold (R105). -/
def State.reversalDue (s : State) (t : Train) : Bool :=
  t.reversal != .none && !t.leaving && s.reversalReady t

/-- A pending reversal is performed when its conditions hold (R105). -/
def tryReversal (s : State) (num : Nat) : State :=
  match s.trains.find num with
  | none => s
  | some t => if s.reversalDue t then performReversal num s else s

/-- A pending reversal performed in a speed step (R82, step 3): a wanted local exit is claimed at once, a remote one is
asked for in step 4 of the same speed step, with the other claims this speed step creates (R87, log 30). -/
def reverseInStep (s : State) (num : Nat) : State :=
  match s.trains.find num with
  | none => s
  | some t => if s.reversalDue t then requestLocal (turnRound num s) num else s

/-! ### Removal -/

/-- A withdrawal (R75): each block Occupied by the train becomes Intruded. DESIGN CHOICE (log 32): in ascending block
order, for which the spec gives none. -/
def withdraw (num : Nat) (s : State) : State :=
  s.blockNumbers.foldl (fun s b => if s.blockState b = some (.occupied num) then changeBlock b .intruded s else s) s

/-- Removing a record (R92): its local reservations are released, its pending claim removed, the record deleted, the
train withdrawn. DESIGN CHOICE (log 32): several reservations are released in ascending block order, for which the spec
gives none. -/
def removeRecord (num : Nat) (s : State) : State :=
  let s := s.blockNumbers.foldl (fun s b => releaseBlock b num s.settings.station s) s
  let s := removeClaims (fun c => c.train == num) s
  withdraw num { s with trains := { s.trains with records := s.trains.records.filter fun t => t.num != num } }

/-! ### Entry, placement, vacancy -/

/-- A record added in its place in ascending train number. -/
def insertTrain (t : Train) : List Train → List Train
  | [] => [t]
  | x :: xs => if t.num < x.num then t :: x :: xs else x :: insertTrain t xs

/-- The state with a new record. -/
def addTrain (t : Train) (s : State) : State :=
  { s with trains := { s.trains with records := insertTrain t s.trains.records } }

/-- A block is pushed onto the front of a train's trail, which keeps its newest three (R88, R90). -/
def pushBlock (num b : Nat) (s : State) : State :=
  askExit num (exitChanged num
    (updateTrain num (fun t => { t with trail := (b :: t.trail).take 3, enteredFrom := none }) s))

/-- The record an entry creates (R89). -/
def Train.entered (st : Settings) (b : Nat) (v : Reservation) : Train :=
  { num := v.train, dir := v.dir, target := v.level, present := v.level, trail := [b], stopReached := false
    leaving := false, enteredFrom := v.origin.filter fun o => !st.owns o, reversal := .none }

/-- An entry at the train table (R88, R89): the block is pushed, or a record is created; a wanted exit is asked for. -/
def entry (b : Nat) (v : Reservation) (s : State) : State :=
  if s.hasTrain v.train then pushBlock v.train b s
  else askExit v.train (rederive (addTrain (Train.entered s.settings b v) s))

/-- The record a placement creates (R90): Stopped, with target and present speed 0. -/
def Train.placed (b num : Nat) (dir : Dir) : Train :=
  { num := num, dir := dir, target := 0, present := 0, trail := [b], stopReached := false, leaving := false
    enteredFrom := none, reversal := .none }

/-- A placement at the train table (R90). -/
def placement (b num : Nat) (dir : Dir) (s : State) : State :=
  if s.hasTrain num then pushBlock num b s else rederive (addTrain (Train.placed b num dir) s)

/-- The block stands in the trail of the train's record. -/
def State.inTrail (s : State) (b num : Nat) : Bool :=
  match s.trains.find num with
  | none => false
  | some t => t.trail.contains b

/-- A vacancy or a loss at the train table (R91): the block leaves the trail; a new head changes the exit; an emptied
trail removes the record. A block not in the trail changes nothing there. -/
def vacated (b num : Nat) (s : State) : State :=
  match s.trains.find num with
  | none => s
  | some t =>
    if t.trail.contains b then
      let trail := t.trail.filter fun x => x != b
      let s := updateTrain num (fun t => { t with trail := trail }) s
      if trail.isEmpty then removeRecord num s
      else if t.trail.head? = some b then exitChanged num s
      else s
    else s

/-- Block `b`, until now Occupied by the train, becomes `st`, which is Free or Blocked (R73, R76): the vacancy or loss is
handed to the train table, the change then noticed and broadcast (log 16). A block the trail had dropped may let a
pending reversal go ahead (R91, R105); the broadcasts of that reversal follow the one of this change, so that two changes
of one block are broadcast in their order (R64). -/
def giveUpBlock (b num : Nat) (st : BlockState) (s : State) : State :=
  let left := noticeBlock b st (vacated b num (setBlockState b st s))
  if s.inTrail b num then left else tryReversal left num

end Sys2Proof.Machine
end

