-- ==== Sys2Proof/Machine/Governors.lean ====
section
/-! DEFINITION. The load governor (06): power level, budget, temperature, admission, allowance, trip; the commands
POWER_ORDER and GOVERNOR_STEP. -/

namespace Sys2Proof.Machine

/-! ### Power level -/

/-- The power level changes to the named one (R110): the booster cap follows at once, since boosters are driven by the
present level's cap; a level that does not permit rotaries stops those in Starting or Running (R155). Naming the present
level changes nothing. -/
def setLevel (p : PowerLevel) (s : State) : State :=
  if s.gov.level = p then s
  else
    { s with gov := { s.gov with level := p }
             rotary := if (s.settings.desc p).rotaries then s.rotary else s.rotary.map Rotary.forbid }

/-- A taken Power order (R110). -/
def takePowerOrder (m : InMsg) (s : State) : State :=
  withBody (PowerLevel.ofCode (byteAt m.body 0)) setLevel s

/-- POWER_ORDER (R110). -/
def execPowerOrder (s : State) : Host.Outcome State Fault Refusal :=
  .next (takeMessage (fun m => m.kind == .powerOrder) takePowerOrder s)

/-! ### Temperature -/

/-- The temperature state after a reading (R113). -/
def tempAfter (st : Settings) (old : TempState) (reading : Int) : TempState :=
  if (st.critTemp : Int) ≤ reading then .tripped
  else match old with
    | .normal => if (st.warnTemp : Int) ≤ reading then .warm else .normal
    | .warm => if reading ≤ (st.warnTemp : Int) - 10 then .normal else .warm
    | .tripped => if reading ≤ (st.warnTemp : Int) - 10 then .normal else .tripped

/-- The trip is handed to the other blocks (R121): trains lose their present speed and keep their targets (R83), lamps go
dark (R141), rotaries in motion are Halted (R156). Boosters follow by themselves (R63). -/
def handTrip (s : State) : State :=
  { s with trains := { s.trains with records := s.trains.records.map fun t => { t with present := 0 } }
           lamps := s.lamps.trip
           rotary := s.rotary.map Rotary.trip }

/-- The end of the trip is handed to the other blocks (R123). -/
def handTripEnd (s : State) : State :=
  { s with lamps := s.lamps.tripEnd, rotary := s.rotary.map Rotary.tripEnd }

/-- The fault classes Warm and Trip follow a change of the temperature state (R114): the class left ends, the class
entered starts with the temperature read as its detail (R185). -/
def tempFaults (old new : TempState) (reading : Int) (s : State) : State :=
  if old = new then s
  else
    let s := match old with
      | .normal => s
      | .warm => endFault .warm s
      | .tripped => endFault .trip s
    match new with
    | .normal => s
    | .warm => raiseFault .warm reading.toNat s
    | .tripped => raiseFault .trip reading.toNat s

/-- Step 1 of the governor step (R111, R113, R114, R121, R123). -/
def govTemperature (reading : Int) (s : State) : State :=
  let old := s.gov.temp
  let new := tempAfter s.settings old reading
  let s := { s with gov := { s.gov with latest := reading, temp := new } }
  let s := tempFaults old new reading s
  if old ≠ .tripped ∧ new = .tripped then handTrip s
  else if old = .tripped ∧ new ≠ .tripped then handTripEnd s
  else s

/-! ### Budget -/

/-- The effective budget settled toward the level's budget (R112). -/
def settled (d : LevelDesc) (effective : Nat) : Nat :=
  if effective ≤ d.budget then d.budget else max d.budget (effective - d.settle)

/-- The working budget of a temperature state (R115). -/
def workingBudget (t : TempState) (effective : Nat) : Nat :=
  match t with
  | .normal => effective
  | .warm => effective * 3 / 4
  | .tripped => 0

/-- The booster current B: the sum of the latest samples of the own blocks (R116). -/
def State.samplesSum (s : State) : Nat := (s.blocks.map fun b => b.sample).sum

/-- Steps 2 to 4: the budget settles, the working budget and B are formed. -/
def govBudget (s : State) : State :=
  let effective := settled (s.settings.desc s.gov.level) s.gov.effective
  { s with gov := { s.gov with effective := effective, working := workingBudget s.gov.temp effective
                               boosterB := s.samplesSum } }

/-! ### Admission and allowance -/

/-- A Held channel is admitted (R118): the level permits rotaries, the station is not Tripped, and the run current is no
more than working budget - B - Q, taken signed. -/
def State.admits (s : State) (c : Chan) : Bool :=
  (s.rotary.get c).state == .held && s.rotaryAllowed &&
    ((s.settings.rot c).runCurrent : Int) ≤ (s.gov.working : Int) - s.gov.boosterB - s.rotaryQ

/-- A channel is considered for admission (R118, R151). -/
def consider (c : Chan) (s : State) : State :=
  if s.admits c then setRotary c ((s.rotary.get c).admitted (s.settings.rot c)) s else s

/-- Step 6: the allowance A = max(0, working budget - B - Q) is published (R120). -/
def publishAllowance (s : State) : State :=
  { s with gov := { s.gov with allowance := s.gov.working - s.gov.boosterB - s.rotaryQ } }

/-- The governor step in the order of R111: temperature, budget, working budget, B and Q, admissions in channel order,
allowance. -/
def governorStep (reading : Int) (s : State) : State :=
  publishAllowance (consider .ch1 (consider .ch0 (govBudget (govTemperature reading s))))

/-- GOVERNOR_STEP (R111): taken while the station is Listening or Running. -/
def execGovernorStep (temperature : Int) (s : State) : Host.Outcome State Fault Refusal :=
  .next (if s.active then governorStep temperature s else s)

end Sys2Proof.Machine
end

