-- ==== Sys2Proof/Machine/Trains.lean ====
section
/-! DEFINITION. The train table's commands (05): GRANT, REFUSE, BLOCK_STATE, TRAIN_ORDER_SPEED, TRAIN_ORDER_STOP,
TRAIN_ORDER_REVERSE, TRAIN_ORDER_REMOVE, SPEED_STEP, ANSWER_TIMEOUT and RETRY_WAIT_END. -/

namespace Sys2Proof.Machine

/-! ### Train orders -/

/-- Speed (R104): the target, or the resume speed of a pending reversal. -/
def Train.speedOrder (v : Nat) (t : Train) : Train :=
  match t.reversal with
  | .none => { t with target := min 1000 v }
  | .pending | .resume _ => { t with reversal := .resume (min 1000 v) }

/-- Stop (R104): target 0; a pending reversal keeps no resume speed. -/
def Train.stopOrder (t : Train) : Train :=
  match t.reversal with
  | .none => { t with target := 0 }
  | .pending | .resume _ => { t with target := 0, reversal := .pending }

/-- A Speed order for a train (R104). -/
def orderSpeed (num v : Nat) (s : State) : State := rederive (updateTrain num (Train.speedOrder v) s)

/-- A Stop order for a train (R104). -/
def orderStop (num : Nat) (s : State) : State := rederive (updateTrain num Train.stopOrder s)

/-- A Reverse order for a train (R105): ignored for a Leaving record, performed at once when its three conditions hold,
otherwise pending with target 0; taken while one is pending it changes nothing. -/
def orderReverse (num : Nat) (s : State) : State :=
  match s.trains.find num with
  | none => s
  | some t =>
    if t.leaving || t.reversal != .none then s
    else if s.reversalReady t then performReversal num s
    else rederive (updateTrain num (fun t => { t with target := 0, reversal := .pending }) s)

/-- A Remove order for a train (R107). -/
def orderRemove (num : Nat) (s : State) : State := if s.hasTrain num then removeRecord num s else s

/-- The order code of a Train order: 1 Speed, 2 Stop, 3 Reverse, 4 Remove. -/
def orderCodeOf (m : InMsg) : Nat := byteAt m.body 1

/-- The head is a Train order for this command: its order is `code`, or is none of the four and malformed whichever
command takes it (log 10). -/
def isTrainOrder (code : Nat) (m : InMsg) : Bool :=
  m.kind == .trainOrder && (orderCodeOf m == code || !(1 ≤ orderCodeOf m && orderCodeOf m ≤ 4))

/-- The train of a well-formed Train order with this order (R104). -/
def trainOrderTrain (code : Nat) (m : InMsg) : Option Nat :=
  if orderCodeOf m = code && trainOk (byteAt m.body 0) then some (byteAt m.body 0) else none

/-- A taken Speed order (R104, R198). -/
def takeOrderSpeed (m : InMsg) (s : State) : State :=
  withBody (trainOrderTrain 1 m) (fun num => orderSpeed num (num2 m.body 2)) s

/-- A taken Stop order (R104). -/
def takeOrderStop (m : InMsg) (s : State) : State := withBody (trainOrderTrain 2 m) orderStop s

/-- A taken Reverse order (R105). -/
def takeOrderReverse (m : InMsg) (s : State) : State := withBody (trainOrderTrain 3 m) orderReverse s

/-- A taken Remove order (R107). -/
def takeOrderRemove (m : InMsg) (s : State) : State := withBody (trainOrderTrain 4 m) orderRemove s

/-- TRAIN_ORDER_SPEED (R104). -/
def execTrainOrderSpeed (s : State) : Host.Outcome State Fault Refusal :=
  .next (takeMessage (isTrainOrder 1) takeOrderSpeed s)

/-- TRAIN_ORDER_STOP (R104). -/
def execTrainOrderStop (s : State) : Host.Outcome State Fault Refusal :=
  .next (takeMessage (isTrainOrder 2) takeOrderStop s)

/-- TRAIN_ORDER_REVERSE (R105). -/
def execTrainOrderReverse (s : State) : Host.Outcome State Fault Refusal :=
  .next (takeMessage (isTrainOrder 3) takeOrderReverse s)

/-- TRAIN_ORDER_REMOVE (R107). -/
def execTrainOrderRemove (s : State) : Host.Outcome State Fault Refusal :=
  .next (takeMessage (isTrainOrder 4) takeOrderRemove s)

/-! ### Grant and Refuse -/

/-- The claims have a pending claim of the train for the block. -/
def State.hasClaim (s : State) (train b : Nat) : Bool := s.trains.claims.any fun c => c.train == train && c.block == b

/-- A Grant naming this station, from `src` (R97): the claim becomes Granted, whatever it waited for; a stray Grant is
answered by a Release to its source. -/
def grantFor (b train src : Nat) (s : State) : State :=
  if s.hasClaim train b then
    rederive (updateClaim train b (fun c => { c with state := .granted }) s)
  else offer (releaseMsg src b train) s

/-- A taken Grant (R97): one naming another requester is not used. -/
def takeGrant (m : InMsg) (s : State) : State :=
  let b := byteAt m.body 0
  let train := byteAt m.body 1
  if !trainOk train then malformed s
  else if byteAt m.body 2 = s.settings.station then grantFor b train m.src s
  else s

/-- GRANT (R97). -/
def execGrant (s : State) : Host.Outcome State Fault Refusal :=
  .next (takeMessage (fun m => m.kind == .grant) takeGrant s)

/-- What a Refuse does to the matching claim (R98): a Sent claim is Queued again, with a retry wait after Busy, Occupied
or Full and an owner wait naming the source after NotOwner or Blocked. After Vacant, which R98's table gives no wait, it is Queued
with none (log 13). Any other claim stays as it is. -/
def PClaim.refused (why : Reason) (src : Nat) (c : PClaim) : PClaim :=
  match c.state with
  | .sent .. =>
    match why with
    | .busy | .occupied | .full => { c with state := .queued (some retryMs) none }
    | .notOwner | .blocked => { c with state := .queued none (some src) }
    | .vacant => { c with state := .queued none none }
  | .queued .. => c
  | .granted => c

/-- A taken Refuse (R98). -/
def takeRefuse (m : InMsg) (s : State) : State :=
  let train := byteAt m.body 2
  withBody (if trainOk train then Reason.ofCode (byteAt m.body 0) else none)
    (fun why => updateClaim train (byteAt m.body 1) (PClaim.refused why m.src)) s

/-- REFUSE (R98). -/
def execRefuse (s : State) : Host.Outcome State Fault Refusal :=
  .next (takeMessage (fun m => m.kind == .refuse) takeRefuse s)

/-! ### Block state -/

/-- A Block state as read from a message: block, state, train, reporting station. -/
structure BlockReport where
  block : Nat
  state : Reported
  train : Nat
  reporter : Nat
  deriving DecidableEq, Repr

/-- The report of a well-formed Block state (R198). -/
def blockReportOf (m : InMsg) : Option BlockReport :=
  let train := byteAt m.body 2
  let reporter := byteAt m.body 3
  if train ≤ 127 && 1 ≤ reporter && reporter ≤ 63 then
    (Reported.ofCode (byteAt m.body 1)).map fun st =>
      { block := byteAt m.body 0, state := st, train := train, reporter := reporter }
  else none

/-- The record becomes Leaving; a pending reversal is discarded with the target left at 0 (R93, R105). -/
def Train.leave (t : Train) : Train := { t with leaving := true, reversal := .none }

/-- The report completes a claim (R93): the claim is removed whatever its state, and its train's record is Leaving. -/
def completeClaim (r : BlockReport) (s : State) : State :=
  let left := s.trains.claims.filter fun c => !(c.train == r.train && c.block == r.block)
  if r.state = .occupied ∧ s.hasClaim r.train r.block then
    rederive (updateTrain r.train Train.leave { s with trains := { s.trains with claims := left } })
  else s

/-- The report speaks for the claim's train: Reserved or Occupied naming it (R100). -/
def BlockReport.keeps (r : BlockReport) (c : PClaim) : Bool :=
  (r.state == .reserved || r.state == .occupied) && r.train == c.train

/-- The report returns a Granted claim to Queued (R100). -/
def PClaim.reported (r : BlockReport) (c : PClaim) : PClaim :=
  if c.isGranted && c.block == r.block && !r.keeps c then { c with state := .queued (some retryMs) none } else c

/-- Granted claims for the reported block are returned to Queued when it is not kept for them; their exits cease to be
held (R100). -/
def requeueClaims (r : BlockReport) (s : State) : State :=
  rederive { s with trains := { s.trains with claims := s.trains.claims.map (PClaim.reported r) } }

/-- How many entries the neighbour view holds at most (R102). -/
def viewLimit : Nat := 16

/-- The entry replaced first when the view is full: the greatest age, the lowest block among equal ages (R102); the view
is in ascending block number. -/
def oldestView : List ViewEntry → Option ViewEntry
  | [] => none
  | e :: es =>
    match oldestView es with
    | none => some e
    | some o => if o.age ≤ e.age then some e else some o

/-- An entry put in its place in ascending block number. -/
def insertView (e : ViewEntry) : List ViewEntry → List ViewEntry
  | [] => [e]
  | x :: xs => if e.block < x.block then e :: x :: xs else x :: insertView e xs

/-- The view updated by a report (R102): replaced in place, added, or added in place of the oldest entry. -/
def viewAfter (r : BlockReport) (v : List ViewEntry) : List ViewEntry :=
  let e : ViewEntry := { block := r.block, state := r.state, train := r.train, reporter := r.reporter, age := 0 }
  if v.any fun x => x.block == r.block then v.map fun x => if x.block = r.block then e else x
  else if v.length < viewLimit then insertView e v
  else match oldestView v with
    | some o => insertView e (v.filter fun x => x.block != o.block)
    | none => insertView e v

/-- The neighbour view takes a report about a remote neighbour of an own block (R102). -/
def updateView (r : BlockReport) (s : State) : State :=
  if s.isRemoteNeighbour r.block then
    { s with trains := { s.trains with view := viewAfter r s.trains.view } }
  else s

/-- The trains whose entered-from a report clears: it is the reported block, now Free (R103). -/
def State.clearedBy (s : State) (r : BlockReport) : List Nat :=
  if r.state = .free then (s.trains.records.filter fun t => t.enteredFrom == some r.block).map fun t => t.num else []

/-- Entered-from is cleared for the trains that have left the reported block, and their pending reversals are performed
if their other conditions hold (R103, R105). DESIGN CHOICE (log 33): every entered-from is cleared before the first of
several reversals, and these are performed in ascending train number; the spec gives no order. -/
def clearEnteredFrom (r : BlockReport) (s : State) : State :=
  let cleared := s.clearedBy r
  cleared.foldl tryReversal
    (cleared.foldl (fun s num => updateTrain num (fun t => { t with enteredFrom := none }) s) s)

/-- A report taken by the train table (R93, R100, R102, R103); a report about an own block is not used for claims. -/
def applyReport (r : BlockReport) (s : State) : State :=
  if s.settings.owns r.block then s
  else clearEnteredFrom r (updateView r (requeueClaims r (completeClaim r s)))

/-- A taken Block state (R198). -/
def takeBlockState (m : InMsg) (s : State) : State := withBody (blockReportOf m) applyReport s

/-- BLOCK_STATE (R93, R100, R102, R103). -/
def execBlockState (s : State) : Host.Outcome State Fault Refusal :=
  .next (takeMessage (fun m => m.kind == .blockState) takeBlockState s)

/-! ### Claim timers -/

/-- The answer timer of a Sent claim runs out (R99). -/
def PClaim.timedOut (c : PClaim) : PClaim :=
  match c.state with
  | .sent _ (some _) => { c with state := .queued (some retryMs) none }
  | .sent _ none => c
  | .queued .. => c
  | .granted => c

/-- The retry wait of a Queued claim ends (R96): it is free to be sent at the next speed step. -/
def PClaim.retryEnded (c : PClaim) : PClaim :=
  match c.state with
  | .queued (some _) w => { c with state := .queued none w }
  | .queued none _ => c
  | .sent .. => c
  | .granted => c

/-- The state with every claim of a train changed; there is at most one (R94). -/
def updateClaimOf (train : Nat) (f : PClaim → PClaim) (s : State) : State :=
  { s with trains := { s.trains with claims := s.trains.claims.map fun c => if c.train = train then f c else c } }

/-- ANSWER_TIMEOUT (R99). -/
def execAnswerTimeout (train : Nat) (s : State) : Host.Outcome State Fault Refusal :=
  .next (updateClaimOf train PClaim.timedOut s)

/-- RETRY_WAIT_END (R96). -/
def execRetryWaitEnd (train : Nat) (s : State) : Host.Outcome State Fault Refusal :=
  .next (updateClaimOf train PClaim.retryEnded s)

/-! ### The speed step -/

/-- The speed a record moves toward (R80, R82): the smaller of its target and the limit of its state. -/
def State.speedGoal (s : State) (t : Train) : Nat :=
  match s.trainState t with
  | .leaving | .approaching => min t.target s.settings.approach
  | .running | .stopped => t.target
  | .held => 0

/-- Step 2 of the speed step for one record (R82): a record that is not Held moves toward its goal by at most the
acceleration step; while the governor is Tripped the present speed is 0 (R83). -/
def State.moveSpeed (s : State) (t : Train) : Train :=
  if s.gov.temp = .tripped then { t with present := 0 }
  else if s.trainState t = .held then t
  else { t with present := moveToward (s.speedGoal t) s.settings.accStep t.present }

/-- Every record's present speed is moved (R82, step 2). -/
def moveSpeeds (s : State) : State :=
  { s with trains := { s.trains with records := s.trains.records.map s.moveSpeed } }

/-- The neighbour view ages by one speed step (R102). -/
def ageView (s : State) : State :=
  { s with trains := { s.trains with view := s.trains.view.map fun e => { e with age := min 255 (e.age + 1) } } }

/-- The speed step in the order of R82: local exit Claims; speeds; states and pending reversals; view, remote exit
requests and sending. DESIGN CHOICE (log 31): several pending reversals of one speed step are performed in ascending train
number; the spec gives no order. -/
def speedStep (s : State) : State :=
  let s := s.trainNumbers.foldl requestLocal s
  let s := rederive (moveSpeeds s)
  let s := s.trainNumbers.foldl reverseInStep s
  let s := ageView s
  sendClaims (s.trainNumbers.foldl requestRemote s)

/-- SPEED_STEP (R82): taken while the station is Listening or Running. -/
def execSpeedStep (s : State) : Host.Outcome State Fault Refusal :=
  .next (if s.active then speedStep s else s)

end Sys2Proof.Machine
end

