-- ==== Sys2Proof/Machine/Track.lean ====
section
/-! DEFINITION. The track unit's commands from the line and from its timers (04): CLAIM, RELEASE, TRAIN_PLACE,
COOLOFF_END and RESERVATION_EXPIRY; and the declarations and the blocked set, as events at a block record. -/

namespace Sys2Proof.Machine

/-! ### Claim and Release from the line -/

/-- The fields of a Claim (12, Message kinds). -/
structure ClaimBody where
  block : Nat
  train : Nat
  level : Nat
  dir : Dir
  origin : Option Nat
  deriving DecidableEq, Repr

/-- The fields of a well-formed Claim (R65, R198): the level is lowered to 1000, the origin block is ignored when the
origin is absent. -/
def claimBodyOf (m : InMsg) : Option ClaimBody :=
  let train := byteAt m.body 1
  match Dir.ofCode (byteAt m.body 4), presentOf (byteAt m.body 5) with
  | some dir, some hasOrigin =>
    if trainOk train then
      some { block := byteAt m.body 0, train := train, level := min 1000 (num2 m.body 2), dir := dir
             origin := if hasOrigin then some (byteAt m.body 6) else none }
    else none
  | _, _ => none

/-- What a Claim from `requester` reserves (R67). -/
def ClaimBody.reservation (c : ClaimBody) (requester : Nat) (st : Settings) : Reservation :=
  { train := c.train, station := requester, expiry := st.holdMs, level := c.level, dir := c.dir, origin := c.origin }

/-- The answer to a remote Claim goes out on the line (R66). -/
def sendAnswer (a : Answer) (b train requester : Nat) (s : State) : State :=
  match a with
  | .silent => s
  | .refuse why => offer (refuseMsg requester why b train) s
  | .reserve => offer (grantMsg b train requester) s
  | .refresh => offer (grantMsg b train requester) s
  | .standing => offer (grantMsg b train requester) s

/-- A remote Claim is answered by the table of situations (R65), the record changed (R67, R68) and the answer sent
(R66). A local Claim's hold follows the record (R81), so the states are derived afresh. -/
def remoteClaim (requester : Nat) (c : ClaimBody) (s : State) : State :=
  let a := s.answerTo c.block c.train requester
  sendAnswer a c.block c.train requester
    (rederive (applyAnswer a c.block (c.reservation requester s.settings) s))

/-- A taken Claim (R65). -/
def takeClaim (m : InMsg) (s : State) : State := withBody (claimBodyOf m) (remoteClaim m.src) s

/-- CLAIM (R65). -/
def execClaim (s : State) : Host.Outcome State Fault Refusal :=
  .next (takeMessage (fun m => m.kind == .claim) takeClaim s)

/-- The train of a well-formed Release (R72). -/
def releaseTrainOf (m : InMsg) : Option Nat := if trainOk (byteAt m.body 1) then some (byteAt m.body 1) else none

/-- A taken Release (R72): its requester is the message's source. -/
def takeRelease (m : InMsg) (s : State) : State :=
  withBody (releaseTrainOf m) (fun train => releaseBlock (byteAt m.body 0) train m.src) s

/-- RELEASE (R72). -/
def execRelease (s : State) : Host.Outcome State Fault Refusal :=
  .next (takeMessage (fun m => m.kind == .release) takeRelease s)

/-! ### Train place -/

/-- A Train place for an own block, by its record (R74): an Intruded block becomes Occupied if the train has a record or
there is room for one, and the placement is handed to the train table before the change is noticed and broadcast (log
16); anything else is refused to the source. -/
def placeTrain (b num : Nat) (dir : Dir) (src : Nat) (s : State) : State :=
  match s.block b with
  | none => s
  | some r =>
    match r.state with
    | .intruded =>
      if s.hasTrain num || !s.trackFull then
        noticeBlock b (.occupied num) (placement b num dir (setBlockState b (.occupied num) s))
      else offer (refuseMsg src .full b num) s
    | .free => offer (refuseMsg src .vacant b num) s
    | .reserved _ => offer (refuseMsg src .vacant b num) s
    | .occupied _ => offer (refuseMsg src .occupied b num) s
    | .blocked => offer (refuseMsg src (if r.detOccupied then .occupied else .vacant) b num) s

/-- The train and direction of a well-formed Train place (R74). -/
def placeBodyOf (m : InMsg) : Option (Nat × Dir) :=
  if trainOk (byteAt m.body 1) then (Dir.ofCode (byteAt m.body 2)).map fun d => (byteAt m.body 1, d) else none

/-- A taken Train place (R74): outside the own window or while Listening it is ignored. -/
def takeTrainPlace (m : InMsg) (s : State) : State :=
  withBody (placeBodyOf m)
    (fun x s => if s.isRunning then placeTrain (byteAt m.body 0) x.1 x.2 m.src s else s) s

/-- TRAIN_PLACE (R74). -/
def execTrainPlace (s : State) : Host.Outcome State Fault Refusal :=
  .next (takeMessage (fun m => m.kind == .trainPlace) takeTrainPlace s)

/-! ### Timers -/

/-- COOLOFF_END (R62): the CoolOff timer runs out, and the booster takes the state R63 gives it. -/
def execCooloffEnd (b : Nat) (s : State) : Host.Outcome State Fault Refusal :=
  .next (updateBlock b (fun r => { r with coolOff := none }) s)

/-- A reservation expires (R70). -/
def expire (b : Nat) (s : State) : State :=
  match s.blockState b with
  | some (.reserved _) => changeBlock b .free s
  | _ => s

/-- RESERVATION_EXPIRY (R70). -/
def execReservationExpiry (b : Nat) (s : State) : Host.Outcome State Fault Refusal := .next (expire b s)

/-! ### Declarations -/

/-- Occupancy declared on a block record (R69, R71): a reservation is consumed, the entry handed to the train table and
the change then noticed; a Free block becomes Intruded and Intrusion is raised. The report unit's notice of it is offered
with the sample's other notices (`detectorSample`), at any place among the track unit's broadcasts (R12). -/
def occupancyDeclared (b : Nat) (s : State) : State :=
  match s.blockState b with
  | some (.reserved v) =>
    noticeBlock b (.occupied v.train) (entry b v (setBlockState b (.occupied v.train) s))
  | some .free => noticeBlock b .intruded (raiseFlags .intrusion (setBlockState b .intruded s))
  | _ => s

/-- Vacancy declared on a block record (R73): an Occupied block becomes Free and the vacancy is handed to the train table;
an Intruded block becomes Free. -/
def vacancyDeclared (b : Nat) (s : State) : State :=
  match s.blockState b with
  | some (.occupied num) => giveUpBlock b num .free s
  | some .intruded => changeBlock b .free s
  | _ => s

/-! ### The blocked set -/

/-- A block joins the blocked set (R76): its record becomes Blocked whatever its state; the loss of an Occupied block is
handed to the train table; the change is noticed and broadcast. -/
def joinBlocked (b : Nat) (s : State) : State :=
  match s.blockState b with
  | some (.occupied num) => giveUpBlock b num .blocked s
  | some _ => changeBlock b .blocked s
  | none => s

/-- A block leaves the blocked set (R77): Free or Intruded by its detector. -/
def leaveBlocked (b : Nat) (s : State) : State :=
  match s.block b with
  | some r => changeBlock b (if r.detOccupied then .intruded else .free) s
  | none => s

/-- The new blocked set is handed to the track unit (R36, R76, R77): each own block that joins or leaves it changes, in
ascending block order. A record is Blocked exactly while its block is in the set. -/
def applyBlockedSet (inSet : Nat → Bool) (s : State) : State :=
  s.blockNumbers.foldl (fun s b =>
    let isBlocked := s.blockState b == some .blocked
    if inSet b && !isBlocked then joinBlocked b s
    else if !inSet b && isBlocked then leaveBlocked b s
    else s) s

end Sys2Proof.Machine
end

