-- ==== Sys2Proof/Machine/Cues.lean ====
section
/-! DEFINITION. The cue unit (09): actions, own events, firing and skipping, the listen table; the commands SHOW_EVENT,
CUE_LOAD, CUE_CLEAR and OWN_EVENT. -/

namespace Sys2Proof.Machine

/-! ### Own events and Missed -/

/-- How many own events may be pending (R165). -/
def ownLimit : Nat := 8

/-- Missed counts 1, up to 255 (R167). -/
def countMissed (s : State) : State := { s with cues := { s.cues with missed := min 255 (s.cues.missed + 1) } }

/-- An own event is made: it joins the tail of the pending list, or is lost in Missed when the list is full (R165). -/
def makeOwn (code hop : Nat) (s : State) : State :=
  if s.cues.own.length < ownLimit then
    let e : ShowEvent := { code := code, origin := s.settings.station, hop := hop }
    { s with cues := { s.cues with own := s.cues.own ++ [e] } }
  else countMissed s

/-! ### Actions -/

/-- The Train order broadcast of a Train action (R164). -/
def trainOrderMsg (num code value : Nat) : OutMsg := outMsg 0 .trainOrder ([toByte num, toByte code] ++ bytes2 value)

/-- An action handed to the block that owns its matter (R163). A train order is broadcast and applied locally, in either
order (R164, log 6). A Show event action makes an own event of hop `hop`, if one is to be made (R165, R175). -/
def perform (hop : Option Nat) (a : Action) (s : State) : State :=
  match a with
  | .lampSet g level u => lampSet g level u s.clock.time s
  | .lampClear g => lampClear g s
  | .power p => setLevel p s
  | .rotaryRun c n => rotaryRun c n s
  | .rotaryStop c => rotaryStop c s
  | .rotaryClear c => rotaryClear c s
  | .trainSpeed num v => inEitherOrder (offer (trainOrderMsg num 1 v)) (orderSpeed num v) s
  | .trainStop num => inEitherOrder (offer (trainOrderMsg num 2 0)) (orderStop num) s
  | .trainReverse num => inEitherOrder (offer (trainOrderMsg num 3 0)) (orderReverse num) s
  | .showEvent code =>
    match hop with
    | some h => makeOwn code h s
    | none => s

/-! ### The listen table -/

/-- An enabled entry matches an event: its code, and its origin 0 or the event's (R174). -/
def ListenEntry.hears (l : ListenEntry) (e : ShowEvent) : Bool :=
  l.enabled && l.code == e.code && (l.origin == 0 || l.origin == e.origin)

/-- The highest hop an event may have (R173); an event of this hop is neither answered nor relayed (R175, R176). -/
def lastHop : Nat := 3

/-- The hop of the own event a listen action makes: one above that of the event matched, if that is below 3 (R175). -/
def nextHop (hop : Nat) : Option Nat := if hop < lastHop then some (hop + 1) else none

/-- A matching entry performs its action (R174). -/
def listenStep (e : ShowEvent) (s : State) (l : ListenEntry) : State :=
  match l.action with
  | some a => if l.hears e then perform (nextHop e.hop) a s else s
  | none => s

/-- An event matched against the listen table, in entry order (R174). -/
def matchListen (e : ShowEvent) (s : State) : State := s.settings.listen.foldl (listenStep e) s

/-- The Show event message of an event. -/
def showEventMsg (e : ShowEvent) : OutMsg := outMsg 0 .showEvent [toByte e.code, toByte e.origin, toByte e.hop]

/-- The oldest own event is taken (R165): it leaves the list, its Show event is offered and it is matched, in either
order (log 6). -/
def takeOwn (s : State) : State :=
  match s.cues.own with
  | [] => s
  | e :: rest =>
    inEitherOrder (offer (showEventMsg e)) (matchListen e) { s with cues := { s.cues with own := rest } }

/-- OWN_EVENT (R165): taken while the station is Listening or Running. -/
def execOwnEvent (s : State) : Host.Outcome State Fault Refusal := .next (if s.active then takeOwn s else s)

/-- At most how many events come of one of this hop, itself included: it makes at most one event of the next hop for each
of the eight listen entries (R172, R175). -/
def ownWeight (hop : Nat) : Nat :=
  if hop = 0 then 585 else if hop = 1 then 73 else if hop = 2 then 9 else 1

/-- How many own events there are at most to take until the list is empty. -/
def ownFuel (own : List ShowEvent) : Nat := (own.map fun e => ownWeight e.hop).sum

/-- `n` own events are taken, one at a time. -/
def takeOwns : Nat → State → State
  | 0, s => s
  | n + 1, s => takeOwns n (takeOwn s)

/-- The own events still pending are taken before the cue unit's next advance, skip, message or arrival (R165, log 17).
-/
def settleOwn (s : State) : State := takeOwns (ownFuel s.cues.own) s

/-! ### Advance and skip -/

/-- The trigger point of a cue. -/
def Cue.point (c : Cue) : Nat := c.minute * minuteMs

/-- The cue at the index fires (R161, R163): the index rises by 1 and the action is performed. -/
def fire (s : State) (c : Cue) : State :=
  perform (some 0) c.action { s with cues := { s.cues with index := s.cues.index + 1 } }

/-- The cues from the index onward whose trigger point is at or below `t` (R161). -/
def CueUnit.due (u : CueUnit) (t : Nat) : List Cue := (u.cues.drop u.index).takeWhile fun c => c.point ≤ t

/-- The cues from the index to the end of the list. -/
def CueUnit.restOfDay (u : CueUnit) : List Cue := u.cues.drop u.index

/-- The index is set to 0 (R162, R168). -/
def wrapIndex (s : State) : State := { s with cues := { s.cues with index := 0 } }

/-- The cues that a movement of scene time to `t` covers are taken by `f`, in list order (R161, R162, R166, R168), and
the cue time becomes `t`. -/
def coverCues (f : State → Cue → State) (t : Nat) (s : State) : State :=
  let s :=
    if s.cues.cueTime ≤ t then (s.cues.due t).foldl f s
    else
      let s := wrapIndex (s.cues.restOfDay.foldl f s)
      (s.cues.due t).foldl f s
  { s with cues := { s.cues with cueTime := t } }

/-- An advance to `t` (R161, R162). -/
def advance (t : Nat) (s : State) : State := coverCues fire t s

/-- A cue taken across a jump (R166, R140): a state action is applied, a one-shot is left out and counted in Missed. -/
def passOver (s : State) (c : Cue) : State :=
  let s := { s with cues := { s.cues with index := s.cues.index + 1 } }
  match c.action with
  | .lampSet g level u => lampSetAcross g level u c.point s
  | a => if a.isState then perform none a s else countMissed s

/-- A skip to `n` (R166, R168). -/
def skip (n : Nat) (s : State) : State := coverCues passOver n s

/-! ### Taking messages -/

/-- The event of a well-formed Show event message (R173). -/
def showEventOf (m : InMsg) : Option ShowEvent :=
  let e : ShowEvent := { code := byteAt m.body 0, origin := byteAt m.body 1, hop := byteAt m.body 2 }
  if e.code ≠ 0 ∧ 1 ≤ e.origin ∧ e.origin ≤ 63 ∧ e.hop ≤ lastHop then some e else none

/-- At least one entry that matches the event has its relay mark set (R176). -/
def Settings.relays (st : Settings) (e : ShowEvent) : Bool := st.listen.any fun l => l.hears e && l.relay

/-- A relay (R176): the event with its hop raised by 1, offered once. -/
def relay (e : ShowEvent) (s : State) : State :=
  if s.settings.relays e && e.hop < lastHop then offer (showEventMsg { e with hop := e.hop + 1 }) s else s

/-- A received event (R173, R174, R176): an event of the own origin is discarded; any other is matched and then perhaps
relayed. -/
def hearEvent (e : ShowEvent) (s : State) : State :=
  if e.origin = s.settings.station then s else relay e (matchListen e s)

/-- A taken Show event (R173). -/
def takeShowEvent (m : InMsg) (s : State) : State := withBody (showEventOf m) hearEvent (settleOwn s)

/-- SHOW_EVENT (R173). -/
def execShowEvent (s : State) : Host.Outcome State Fault Refusal :=
  .next (takeMessage (fun m => m.kind == .showEvent) takeShowEvent s)

/-- How many cues the list holds at most (R159). -/
def cueLimit : Nat := 32

/-- A cue in its place: after every cue of its minute or an earlier one (R170). -/
def insertCue (cues : List Cue) (c : Cue) : List Cue :=
  cues.takeWhile (fun x => x.minute ≤ c.minute) ++ c :: cues.dropWhile fun x => x.minute ≤ c.minute

/-- The position of the first cue whose minute is above that of the cue time, or the count (R159, R170). -/
def indexFor (cues : List Cue) (cueTime : Nat) : Nat := cues.findIdx fun c => minuteOf cueTime < c.minute

/-- Loaded cues are inserted and the index recomputed (R170). -/
def insertCues (load : List Cue) (s : State) : State :=
  let cues := load.foldl insertCue s.cues.cues
  { s with cues := { s.cues with cues := cues, index := indexFor cues s.cues.cueTime } }

/-- A well-formed Cue load (R169): refused with ListFull when it does not fit, inserted whole otherwise. -/
def loadCues (load : List Cue) (s : State) : State :=
  if cueLimit < s.cues.cues.length + load.length then raiseFault .listFull s.cues.cues.length s
  else insertCues load s

/-- A taken Cue load (R169). -/
def takeCueLoad (m : InMsg) (s : State) : State := withBody (cueLoadOf m.body) loadCues (settleOwn s)

/-- CUE_LOAD (R169, R170). -/
def execCueLoad (s : State) : Host.Outcome State Fault Refusal :=
  .next (takeMessage (fun m => m.kind == .cueLoad) takeCueLoad s)

/-- The cue list is emptied (R171). -/
def clearCues (s : State) : State := { s with cues := { s.cues with cues := [], index := 0 } }

/-- A taken Cue clear (R171). -/
def takeCueClear (_ : InMsg) (s : State) : State := clearCues (settleOwn s)

/-- CUE_CLEAR (R171). -/
def execCueClear (s : State) : Host.Outcome State Fault Refusal :=
  .next (takeMessage (fun m => m.kind == .cueClear) takeCueClear s)

end Sys2Proof.Machine
end

