-- ==== Sys2Proof/Machine/Clock.lean ====
section
/-! DEFINITION. The scene clock (03): the clock step, Time marks, jumps and adoption, the station's own Time mark; the
commands CLOCK_STEP, TIME_MARK and TIME_MARK_INTERVAL. -/

namespace Sys2Proof.Machine

/-! ### The clock step -/

/-- The clock after a step (R42): the slew is the smaller of owed and the increment. -/
def Clock.step (st : Settings) (c : Clock) : Clock :=
  let i := increment st.dayLength
  let slew := min c.owed i
  { c.moveTo st ((c.time + i + slew) % dayMs) with owed := c.owed - slew }

/-- The clock takes its step and hands the cue unit an advance naming the time published (R42, R161). -/
def clockStep (s : State) : State :=
  let s := settleOwn s
  let s := { s with clock := s.clock.step s.settings }
  advance s.clock.time s

/-- CLOCK_STEP (R42): taken while the station is Listening or Running. -/
def execClockStep (s : State) : Host.Outcome State Fault Refusal := .next (if s.active then clockStep s else s)

/-! ### Jumps -/

/-- The clock after a jump forward by `offset` (R52). -/
def Clock.jump (st : Settings) (offset : Nat) (c : Clock) : Clock :=
  { c.moveTo st ((c.time + offset) % dayMs) with owed := 0, jumps := true }

/-- A jump (R52): the lamp engine watches its overrides at the new time (R129), the cue unit takes a skip to it (R166).
-/
def jumpBy (offset : Nat) (s : State) : State :=
  let s := settleOwn s
  let s := { s with clock := s.clock.jump s.settings offset }
  skip s.clock.time { s with lamps := s.lamps.watchOverrides s.clock.time }

/-! ### Taking a Time mark -/

/-- The fields of a Time mark. -/
structure TimeMarkBody where
  time : Nat
  dayCode : Nat
  deriving DecidableEq, Repr

/-- The fields of a well-formed Time mark (R48). -/
def timeMarkOf (m : InMsg) : Option TimeMarkBody :=
  let t : TimeMarkBody := { time := num4 m.body 0, dayCode := byteAt m.body 4 }
  if t.time < dayMs && 1 ≤ t.dayCode && t.dayCode ≤ 27 then some t else none

/-- The raw difference (R49). -/
def rawDifference (remote stamp : Nat) : Nat := (remote + dayMs - stamp) % dayMs

/-- The least raw difference that is read as a negative offset: half a day (R49). -/
def halfDay : Nat := 43200000

/-- One scene hour: the least offset that is a jump (R50). -/
def jumpFrom : Nat := 3600000

/-- A mark of the own day length code, by its raw difference (R49 to R53): adopted while adoption is pending; otherwise
ignored, caught up on, or jumped to. -/
def applyDifference (r : Nat) (s : State) : State :=
  if s.clock.adopting then jumpBy r { s with clock := { s.clock with adopting := false } }
  else if r = 0 ∨ halfDay ≤ r then s
  else if r < jumpFrom then { s with clock := { s.clock with owed := r } }
  else jumpBy r s

/-- A well-formed Time mark (R48): one of another day length code sets RateMismatch and does nothing else. -/
def applyTimeMark (stamp : Nat) (t : TimeMarkBody) (s : State) : State :=
  if t.dayCode = dayCode s.settings.dayLength then applyDifference (rawDifference t.time stamp) s
  else { s with clock := { s.clock with rateMismatch := true } }

/-- A taken Time mark (R48, R49). -/
def takeTimeMark (m : InMsg) (s : State) : State := withBody (timeMarkOf m) (applyTimeMark m.stamp) s

/-- TIME_MARK (R48 to R53). -/
def execTimeMark (s : State) : Host.Outcome State Fault Refusal :=
  .next (takeMessage (fun m => m.kind == .timeMark) takeTimeMark s)

/-! ### Sending the time -/

/-- A Time mark with its time field (R45, R47); it is offered with time 0 and written at each attempt (log 18). -/
def timeMarkMsg (st : Settings) (time : Nat) : OutMsg :=
  outMsg 0 .timeMark (bytes4 time ++ [toByte (dayCode st.dayLength)])

/-- TIME_MARK_INTERVAL (R45): an offer while Running, unless the line is Stuck. -/
def execTimeMarkInterval (s : State) : Host.Outcome State Fault Refusal :=
  .next (if s.isRunning && s.line.cond != .stuck then offer (timeMarkMsg s.settings 0) s else s)

end Sys2Proof.Machine
end

