-- ==== Sys2Proof/WellFormed.lean ====
section
/-! DEFINITION. Which commands can come from outside at all: the checks on a command's operands. Every command outside
them is an event that cannot occur, and it changes nothing (log 24). -/

namespace Sys2Proof

/-- How many movements of scene time can fall within one character: one clock step (a character lasts at most 352 us,
R1, and clock steps come every 10 ms, R42) and one jump for each message the inbound queue can hold (R10). -/
def maxMoves : Nat := 9

/-- The operands of the command are ones the outside can give. -/
def Instr.wellFormed : Instr → Bool
  | .configurationReadComplete record => record.length == 160
  | .leadCharacter _ moves => moves ≤ maxMoves
  | .detectorSample currents sensors => currents.length == 8 && sensors.length == 8
  | .cooloffEnd block => block < 256
  | .reservationExpiry block => block < 256
  | .answerTimeout train => 0 < train && train ≤ 127
  | .retryWaitEnd train => 0 < train && train ≤ 127
  | _ => true

end Sys2Proof
end

