-- ==== Sys2Proof/Machine/Detectors.lean ====
section
/-! DEFINITION. The detector sample (04, 05): latest samples, occupancy debounce, shorts, stop sensors and arrivals; the
command DETECTOR_SAMPLE. -/

namespace Sys2Proof.Machine

/-! ### Latest samples -/

/-- The greatest current a detector reads, in mA (R59). -/
def maxSample : Nat := 4000

/-- The place of an own block in the window: the number of its detector and of its pair of stop sensors (R35). -/
def State.slotIndex (s : State) (b : Nat) : Nat := b - s.settings.winBase

/-- The latest sample of every own block is taken (R59); inputs beyond the window are not sampled. -/
def latchSamples (currents : List Nat) (s : State) : State :=
  { s with blocks := s.blocks.map fun r => { r with sample := min maxSample (currents.getD (s.slotIndex r.number) 0) } }

/-! ### Occupancy debounce -/

/-- The high run at which occupancy is declared (R60). -/
def highLimit : Nat := 3

/-- The low run at which vacancy is declared: 32, or 128 in extended vacancy mode (R60). -/
def lowLimit (extended : Bool) : Nat := if extended then 128 else 32

/-- What a debounce declares (R60). -/
inductive Declared where
  | nothing | occupancy | vacancy
  deriving DecidableEq, Repr

/-- What the debounce of a block declares on its latest sample (R60). -/
def Block.declares (st : Settings) (r : Block) : Declared :=
  if r.detOccupied then
    if r.sample < st.occThreshold ∧ lowLimit (st.slot r.number).extended ≤ r.lowRun + 1 then .vacancy else .nothing
  else if st.occThreshold ≤ r.sample ∧ highLimit ≤ r.highRun + 1 then .occupancy else .nothing

/-- The detector after its debounce (R60): the run counts move, and a declaration changes the detector state and makes
both counts 0. -/
def Block.debounced (st : Settings) (r : Block) : Block :=
  match r.declares st with
  | .occupancy => { r with detOccupied := true, highRun := 0, lowRun := 0 }
  | .vacancy => { r with detOccupied := false, highRun := 0, lowRun := 0 }
  | .nothing =>
    if r.detOccupied then
      if st.occThreshold ≤ r.sample then { r with lowRun := 0 }
      else { r with lowRun := r.lowRun + 1, highRun := 0 }
    else if st.occThreshold ≤ r.sample then { r with highRun := r.highRun + 1, lowRun := 0 }
    else { r with highRun := 0 }

/-- A declaration is handed to the block record (R69, R71, R73). -/
def declare (d : Declared) (b : Nat) (s : State) : State :=
  match d with
  | .nothing => s
  | .occupancy => occupancyDeclared b s
  | .vacancy => vacancyDeclared b s

/-- The debounce of one block, its declaration handed on at once (R60). -/
def debounce (s : State) (b : Nat) : State :=
  match s.block b with
  | some r => declare (r.declares s.settings) b (updateBlock b (Block.debounced s.settings) s)
  | none => s

/-! ### Shorts -/

/-- The short run at which a short is declared (R62). -/
def shortLimit : Nat := 2

/-- The CoolOff time in ms (R62). -/
def coolOffMs : Nat := 2000

/-- The latest sample of a block declares a short (R62). -/
def Block.shorts (st : Settings) (r : Block) : Bool :=
  r.coolOff.isNone && st.tripCurrent ≤ r.sample && shortLimit ≤ r.shortRun + 1

/-- The short detection of a block (R62): a declared short starts CoolOff. -/
def Block.shortTested (st : Settings) (r : Block) : Block :=
  if r.shorts st then { r with shortRun := 0, coolOff := some coolOffMs }
  else if r.coolOff.isNone ∧ st.tripCurrent ≤ r.sample then { r with shortRun := r.shortRun + 1 }
  else { r with shortRun := 0 }

/-- The short detection of one block; a declared short raises Short (R62). Its notice is offered with the sample's other
notices (`detectorSample`). -/
def testShort (s : State) (b : Nat) : State :=
  match s.block b with
  | some r =>
    let s' := updateBlock b (Block.shortTested s.settings) s
    if r.shorts s.settings then raiseFlags .short s' else s'
  | none => s

/-! ### Notices of the sample -/

/-- The Fault notice of an Intrusion the debounce of this block raises (R71, R185). -/
def State.intrusionNotice (s : State) (b : Nat) : List OutMsg :=
  match s.block b with
  | some r => if r.declares s.settings = .occupancy ∧ r.state = .free then s.noticeOf .intrusion b else []
  | none => []

/-- The Fault notice of a Short the short detection of this block raises (R62, R185). -/
def State.shortNotice (s : State) (b : Nat) : List OutMsg :=
  match s.block b with
  | some r => if r.shorts s.settings then s.noticeOf .short b else []
  | none => []

/-- The notices `f` gives for each block of a list, each read in the state in which its block is reached by `step`. -/
def noticesOf (f : State → Nat → List OutMsg) (step : State → Nat → State) : List Nat → State → List OutMsg
  | [], _ => []
  | b :: bs, s => f s b ++ noticesOf f step bs (step s b)

/-! ### Stop sensors -/

/-- The end of a block at which a direction leaves it (R84): the rising end Forward, the falling end Reverse. -/
def Train.exitsAt (t : Train) (stopEnd : Dir) : Bool := t.dir == stopEnd

/-- A passage at an end of a block sets the stop reached mark of this record (R84). -/
def Train.passedBy (t : Train) (b : Nat) (stopEnd : Dir) : Bool :=
  !t.leaving && t.trail.head? == some b && t.exitsAt stopEnd

/-- An arrival: the arrival code becomes an own Show event of hop 0 (R85, R165). -/
def arrival (code : Nat) (s : State) : State := if code = 0 then s else makeOwn code 0 (settleOwn s)

/-- A passage handed to the train table (R84, R85). -/
def passage (b : Nat) (stopEnd : Dir) (code : Nat) (s : State) : State :=
  if s.trains.records.any fun t => t.passedBy b stopEnd then
    let records := s.trains.records.map fun t => if t.passedBy b stopEnd then { t with stopReached := true } else t
    arrival code (rederive { s with trains := { s.trains with records := records } })
  else s

/-- The reading of a sensor that is kept: a sensor marked absent is not read (R61). -/
def readSensor (present active : Bool) : Bool := present && active

/-- The stop sensors of one block are read, the rising end first (R61): each one turning active gives a passage. -/
def readSensors (sensors : List EndSensors) (s : State) (b : Nat) : State :=
  match s.block b with
  | some r =>
    let cfg := s.settings.slot b
    let e := sensors.getD (s.slotIndex b) { rising := false, falling := false }
    let rising := readSensor cfg.risingPresent e.rising
    let falling := readSensor cfg.fallingPresent e.falling
    let s := updateBlock b (fun r => { r with risingWas := rising, fallingWas := falling }) s
    let s := if rising && !r.risingWas then passage b .forward cfg.risingCode s else s
    if falling && !r.fallingWas then passage b .reverse cfg.fallingCode s else s
  | none => s

/-! ### The sample -/

/-- One detector sample (R59 to R62): the latest samples; then over all own blocks in ascending order the debounce, the
short detection and the stop sensors (log 12). The notices of the report unit, in the order of their raises, are offered
each at any place among the other blocks' routine offers of the sample (R12, log 6). DESIGN CHOICE (log 36): a second
arrival has the first one's own event taken inside the sample, and what that offers (its Show event, and a Stall notice)
stands behind the track unit's offers; the Stall notice may stand before the sample's notices, though raised after. -/
def detectorSample (currents : List Nat) (sensors : List EndSensors) (s : State) : State :=
  let latched := latchSamples currents s
  let declared := s.blockNumbers.foldl debounce latched
  let tested := s.blockNumbers.foldl testShort declared
  let notices := noticesOf State.intrusionNotice debounce s.blockNumbers latched ++
    noticesOf State.shortNotice testShort s.blockNumbers declared
  offerAmong s.line.routine.length notices (s.blockNumbers.foldl (readSensors sensors) tested)

/-- DETECTOR_SAMPLE (R59): taken while the station is Listening or Running. A command without eight currents and eight
pairs of sensors is none (log 24). -/
def execDetectorSample (currents : List Nat) (sensors : List EndSensors) (s : State) :
    Host.Outcome State Fault Refusal :=
  .next (if s.active && (Instr.detectorSample currents sensors).wellFormed then detectorSample currents sensors s else s)

end Sys2Proof.Machine
end

