-- ==== Sys2Proof/Machine/Peers.lean ====
section
/-! DEFINITION. The peer table (02): Announces, ages, Stale entries, clash marks and the blocked set, the station's own
Announce; the commands ANNOUNCE, AGE_STEP and ANNOUNCE_INTERVAL. -/

namespace Sys2Proof.Machine

/-! ### Clash -/

/-- Two runs of consecutive blocks have a block in common; a run of size 0 has none. -/
def windowsMeet (base1 size1 base2 size2 : Nat) : Bool :=
  0 < size1 && 0 < size2 && base1 < base2 + size2 && base2 < base1 + size1

/-- An entry carries the Clash mark (R36): Fresh, its size not 0, its window overlapping the own one. -/
def Peer.clashes (st : Settings) (p : Peer) : Bool := p.fresh && windowsMeet p.base p.size st.winBase st.winSize

/-- The number of entries that carry the Clash mark. -/
def clashCount (ps : List Peer) : Nat := (ps.filter fun p => p.clash).length

/-- The entries with their Clash marks settled (R36). -/
def settleMarks (st : Settings) (ps : List Peer) : List Peer := ps.map fun p => { p with clash := p.clashes st }

/-- A block is in the blocked set: inside the window of an entry carrying the Clash mark (R36). -/
def inBlockedSet (ps : List Peer) (b : Nat) : Bool := ps.any fun p => p.clash && p.covers b

/-- The flags of the fault class Clash follow the number of marked entries (R37): it starts when that leaves 0 and ends
when it comes to 0. -/
def clashFlags (before : Nat) (ps : List Peer) (s : State) : State :=
  match ps.filter fun p => p.clash with
  | [] => if 0 < before then endFault .clash s else s
  | _ :: _ => if before = 0 then raiseFlags .clash s else s

/-- The notice of a start of Clash names the station newly marked (R37, R185). -/
def State.clashNotice (s : State) (before : Nat) (ps : List Peer) : List OutMsg :=
  match ps.filter fun p => p.clash with
  | [] => []
  | p :: _ => if before = 0 then s.noticeOf .clash p.station else []

/-- The entries change to `ps`, and the clash marks are settled (R36, R37): the blocked set is handed to the track unit,
and Clash starts or ends. The notice of a start is offered at any place among the offers the blocked set makes (R12,
log 6). -/
def settleClash (ps : List Peer) (s : State) : State :=
  let before := clashCount s.peers.entries
  let ps := settleMarks s.settings ps
  offerAmong s.line.routine.length (s.clashNotice before ps)
    (clashFlags before ps (applyBlockedSet (inBlockedSet ps) { s with peers := { s.peers with entries := ps } }))

/-! ### Ages -/

/-- A valid message from a station makes the age of its entry 0 (R32). -/
def heardFrom (src : Nat) (s : State) : State :=
  let entries := s.peers.entries.map fun p => if p.station = src then { p with age := 0 } else p
  { s with peers := { s.peers with entries := entries } }

/-- The line condition becomes Isolated: every entry becomes Stale (R34). -/
def makeAllStale (s : State) : State := settleClash (s.peers.entries.map fun p => { p with fresh := false }) s

/-- The age from which a Fresh entry is Stale: three announce intervals, in seconds (R33). -/
def Settings.staleAge (st : Settings) : Nat := 3 * st.announce

/-- An entry at an age step (R33). -/
def Peer.aged (st : Settings) (p : Peer) : Peer :=
  let age := min 255 (p.age + 1)
  { p with age := age, fresh := p.fresh && age < st.staleAge }

/-- AGE_STEP (R33): taken while the station is Listening or Running. -/
def execAgeStep (s : State) : Host.Outcome State Fault Refusal :=
  .next (if s.active then settleClash (s.peers.entries.map (Peer.aged s.settings)) s else s)

/-! ### Taking an Announce -/

/-- The fields of a well-formed Announce (R28): window, whether the reported state is Running, day length code. -/
structure AnnounceBody where
  base : Nat
  size : Nat
  running : Bool
  dayCode : Nat
  deriving DecidableEq, Repr

/-- A window size an Announce may carry (R28). -/
def windowSizeOk (n : Nat) : Bool := n == 0 || n == 1 || n == 2 || n == 4 || n == 8

/-- A day length code names one of the 27 listed day lengths (R28, R41). -/
def dayCodeOk (n : Nat) : Bool := 1 ≤ n && n ≤ 27

/-- The fields of a well-formed Announce, the base rounded down to a multiple of the size (R28). -/
def announceBodyOf (m : InMsg) : Option AnnounceBody :=
  let size := byteAt m.body 1
  let reported := byteAt m.body 4
  let code := byteAt m.body 5
  if windowSizeOk size && byteAt m.body 2 ≤ 16 && byteAt m.body 3 ≤ 2 && (reported == 1 || reported == 2) &&
      dayCodeOk code then
    some { base := alignBase (byteAt m.body 0) size, size := size, running := reported == 2, dayCode := code }
  else none

/-- A new entry put in its place in ascending station number (log 25). -/
def insertPeer (p : Peer) : List Peer → List Peer
  | [] => [p]
  | x :: xs => if p.station < x.station then p :: x :: xs else x :: insertPeer p xs

/-- The Stale entry to be replaced (R31): the greatest age, the lowest station number among equal ages. The entries are
in ascending station number. -/
def oldestStale : List Peer → Option Peer
  | [] => none
  | p :: ps =>
    match oldestStale ps with
    | none => if p.fresh then none else some p
    | some o => if !p.fresh && o.age ≤ p.age then some p else some o

/-- How many entries the peer table holds at most. -/
def peerLimit : Nat := 16

/-- The entries after a well-formed Announce from `src`, with marks not yet settled (R29, R30, R31); none when the table
is full of Fresh entries. -/
def peersAfter (src : Nat) (a : AnnounceBody) (ps : List Peer) : Option (List Peer) :=
  let new : Peer := { station := src, base := a.base, size := a.size, age := 0, fresh := true, clash := false }
  if ps.any fun p => p.station == src then some (ps.map fun p => if p.station = src then new else p)
  else if ps.length < peerLimit then some (insertPeer new ps)
  else (oldestStale ps).map fun o => insertPeer new (ps.filter fun p => p.station != o.station)

/-- The train table is told that a Running station has announced (R39): an owner wait naming it ends (R101). -/
def PClaim.ownerAnnounced (src : Nat) (c : PClaim) : PClaim :=
  match c.state with
  | .queued retry (some w) => if w = src then { c with state := .queued retry none } else c
  | .queued _ none => c
  | .sent .. => c
  | .granted => c

/-- The notice of R39 reaches the train table (R101). -/
def tellAnnounced (src : Nat) (s : State) : State :=
  { s with trains := { s.trains with claims := s.trains.claims.map (PClaim.ownerAnnounced src) } }

/-- A well-formed Announce (R28 to R31, R36, R39): the entry, the clash marks, then the notice to the train table. The
entry becomes Fresh whatever the line condition is: an Announce queued before an isolation and taken while the line is
still Isolated makes its entry Fresh as R29 to R31 say, against R34's "its entries stay Stale" (DESIGN CHOICE, log 34). -/
def applyAnnounce (src : Nat) (a : AnnounceBody) (s : State) : State :=
  let s := if a.dayCode = dayCode s.settings.dayLength then s
    else { s with clock := { s.clock with rateMismatch := true } }
  let s := match peersAfter src a s.peers.entries with
    | some ps => settleClash ps s
    | none => { s with peers := { s.peers with overflow := true } }
  if a.running then tellAnnounced src s else s

/-- A taken Announce (R28). -/
def takeAnnounce (m : InMsg) (s : State) : State := withBody (announceBodyOf m) (applyAnnounce m.src) s

/-- ANNOUNCE (R28 to R31, R36, R37, R39). -/
def execAnnounce (s : State) : Host.Outcome State Fault Refusal :=
  .next (takeMessage (fun m => m.kind == .announce) takeAnnounce s)

/-! ### The station's own Announce -/

/-- The code of the reported state Running (12). -/
def runningCode : Nat := 2

/-- The station's own Announce (R40). -/
def announceMsg (st : Settings) : OutMsg :=
  outMsg 0 .announce
    [toByte st.winBase, toByte st.winSize, toByte st.lampCount, toByte st.rotaryCount, toByte runningCode,
      toByte (dayCode st.dayLength)]

/-- The station offers its own Announce (R40). -/
def offerAnnounce (s : State) : State := offer (announceMsg s.settings) s

/-- ANNOUNCE_INTERVAL (R40): an offer while Running; in any other station state there is no interval to end. -/
def execAnnounceInterval (s : State) : Host.Outcome State Fault Refusal :=
  .next (if s.isRunning then offerAnnounce s else s)

end Sys2Proof.Machine
end

