-- ==== Sys2Proof/Machine/Loader.lean ====
section
/-! DEFINITION. The start-up loader (11): the memory port, Loading, Unconfigured, Listening, Running, Restart; the
commands POWER_ON, MEMORY_TRANSACTION_FAILURE, MEMORY_RETRY_WAIT_END, CONFIGURATION_READ_COMPLETE,
LISTENING_WINDOW_END and RESTART. -/

namespace Sys2Proof.Machine

/-! ### The memory port (R189) -/

/-- The clock periods of a stage: one for a condition, nine for a byte. -/
def PortStage.periods : PortStage → Nat
  | .start => 1
  | .repeatedStart => 1
  | .send _ _ => 9
  | .read _ _ => 9
  | .stop => 1

/-- The clock periods of a run of stages. -/
def portPeriods (stages : List PortStage) : Nat := (stages.map PortStage.periods).sum

/-- The levels of the clock line and the data line at one moment, true for high. -/
structure PortLevels where
  clock : Bool
  data : Bool
  deriving DecidableEq, Repr

/-- A bit on the wires: the data line changes while the clock is low and is read while it is high. -/
def bitLevels (bit : Bool) : List PortLevels := [⟨false, bit⟩, ⟨true, bit⟩]

/-- The bits of a byte and its acknowledge: most significant bit first, then low for an acknowledge and high for none. -/
def byteBits (data : Byte) (acknowledged : Bool) : List Bool :=
  ((List.range 8).map fun i => data.getLsbD (7 - i)) ++ [!acknowledged]

/-- The levels a stage puts on the two wires, one after another. A start condition is the data line falling while the
clock is high, a stop condition the data line rising while it is high; where a bit went before, the clock falls first and
the data line is set while it is low. -/
def PortStage.levels : PortStage → List PortLevels
  | .start => [⟨true, true⟩, ⟨true, false⟩]
  | .repeatedStart => [⟨false, true⟩, ⟨true, true⟩, ⟨true, false⟩]
  | .send data ack => (byteBits data ack).flatMap bitLevels
  | .read data ack => (byteBits data ack).flatMap bitLevels
  | .stop => [⟨false, false⟩, ⟨true, false⟩, ⟨true, true⟩]

/-- The memory port as the outside saw it in the transaction that ended last. -/
def Loader.portLevels (l : Loader) : List PortLevels := l.wire.flatMap PortStage.levels

/-- The device address 1010011 with the write direction. -/
def deviceWrite : Byte := 0b10100110

/-- The device address 1010011 with the read direction. -/
def deviceRead : Byte := 0b10100111

/-- The length of the configuration record in bytes. -/
def recordLength : Nat := 160

/-- The stages of a transaction that reads this record: every byte but the last is acknowledged. -/
def readTransaction (record : List Byte) : List PortStage :=
  [.start, .send deviceWrite true, .send 0 true, .repeatedStart, .send deviceRead true] ++
    (record.take (recordLength - 1)).map (fun d => .read d true) ++
    (record.drop (recordLength - 1)).map (fun d => .read d false) ++ [.stop]

/-- The stages of a transaction that fails: a stop condition follows a byte that is not acknowledged, and none follows a
data line that reads low. -/
def failedTransaction : PortFailure → List PortStage
  | .deviceWriteNoAck => [.start, .send deviceWrite false, .stop]
  | .wordNoAck => [.start, .send deviceWrite true, .send 0 false, .stop]
  | .deviceReadNoAck => [.start, .send deviceWrite true, .send 0 true, .repeatedStart, .send deviceRead false, .stop]
  | .startLow => []
  | .repeatedStartLow => [.start, .send deviceWrite true, .send 0 true]

/-- The clock periods of the wait after a failed transaction: 10 ms of 10 us each. -/
def waitPeriods : Nat := 1000

/-- The loader makes at most 8 transactions. -/
def maxTransactions : Nat := 8

/-- A failed transaction ends with a stop condition unless the data line read low. -/
def failureStops : PortFailure → Bool
  | .deviceWriteNoAck | .wordNoAck | .deviceReadNoAck => true
  | .startLow | .repeatedStartLow => false

/-! ### Loading -/

/-- POWER_ON (R188): the station is Loading, every block at the values of power-on (R25, 11 Values after each start).
What is the model's own, the queue of commands and the number of free choices, goes on. -/
def execPowerOn (s : State) : Host.Outcome State Fault Refusal :=
  .next { State.reset with freeCount := s.freeCount, pending := s.pending }

/-- A read transaction is in progress. -/
def State.isReading (s : State) : Bool := s.loader.station == .loading && s.loader.port == .reading

/-- The loader after a failed transaction (R189, R191): the eighth makes the station Unconfigured. -/
def Loader.failed (cause : PortFailure) (l : Loader) : Loader :=
  let stages := failedTransaction cause
  let l := { l with stopSent := failureStops cause, wire := stages, periods := l.periods + portPeriods stages }
  if l.transaction < maxTransactions then { l with port := .waiting }
  else { l with port := .finished, station := .unconfigured }

/-- MEMORY_TRANSACTION_FAILURE (R189, R191). -/
def execMemoryTransactionFailure (cause : PortFailure) (s : State) : Host.Outcome State Fault Refusal :=
  .next (if s.isReading then { s with loader := s.loader.failed cause } else s)

/-- The loader begins its next transaction (R189). -/
def Loader.again (l : Loader) : Loader :=
  { l with port := .reading, transaction := l.transaction + 1, periods := l.periods + waitPeriods }

/-- MEMORY_RETRY_WAIT_END (R189). -/
def execMemoryRetryWaitEnd (s : State) : Host.Outcome State Fault Refusal :=
  .next (if s.loader.station == .loading && s.loader.port == .waiting then { s with loader := s.loader.again } else s)

/-! ### Leaving Loading -/

/-- The scene clock at the start (R44): the start minute, adoption pending, phase and daylight level of that time. -/
def Clock.start (st : Settings) : Clock :=
  { time := st.startTime, owed := 0, adopting := true, rateMismatch := false, jumps := false
    phase := phaseAt st st.startTime, daylight := daylightAt st st.startTime, recent := [] }

/-- The block records at the start: one for each block of the own window, ascending (R58). -/
def startBlocks (st : Settings) : List Block := (List.range st.winSize).map fun i => Block.start (st.winBase + i)

/-- The line controller at entry to Listening (R3, R23, R26): the receiver hunts and the silence time starts. A break
still being driven runs on (log 27). -/
def Line.start (st : Settings) (tx : Tx) : Line :=
  { Line.stopped with receiver := .hunting, tx := tx, silence := .running (st.silence * 1000) }

/-- The governor at the start (R109, R112, R113, R120; log 5). -/
def Governor.start (st : Settings) : Governor :=
  { level := st.startLevel, effective := (st.desc st.startLevel).budget, temp := .normal, latest := 0, working := 0
    boosterB := 0, allowance := 0 }

/-- Entry to Listening with the settings of a passed record (R192, R193): every block at its start values; the line
counters are kept (R25). -/
def enterListening (st : Settings) (s : State) : State :=
  { State.reset with
    loader := { s.loader with station := .listening }
    settings := st
    line := Line.start st s.line.tx
    counters := s.counters
    clock := Clock.start st
    blocks := startBlocks st
    gov := Governor.start st
    cues := { cues := [], index := 0, cueTime := st.startTime, own := [], missed := 0 }
    freeCount := s.freeCount
    pending := s.pending }

/-- The transaction has completed the read of this record (R189). -/
def readDone (record : List Byte) (s : State) : State :=
  let stages := readTransaction record
  { s with loader := { s.loader with port := .finished, stopSent := true, wire := stages
                                     periods := s.loader.periods + portPeriods stages } }

/-- The station is Unconfigured (R191): its blocks stay stopped. -/
def enterUnconfigured (s : State) : State := { s with loader := { s.loader with station := .unconfigured } }

/-- CONFIGURATION_READ_COMPLETE (R190 to R193). A record of another length is none (log 24). -/
def execConfigurationReadComplete (record : List Byte) (s : State) : Host.Outcome State Fault Refusal :=
  .next (if s.isReading && (Instr.configurationReadComplete record).wellFormed then
    (if recordPasses record then enterListening (settingsOf record) (readDone record s)
    else enterUnconfigured (readDone record s))
  else s)

/-! ### Running and Restart -/

/-- The station enters Running (R194): adoption pending is cleared and the first Announce is offered. -/
def enterRunning (s : State) : State :=
  offerAnnounce { s with loader := { s.loader with station := .running }, clock := { s.clock with adopting := false } }

/-- LISTENING_WINDOW_END (R194). -/
def execListeningWindowEnd (s : State) : Host.Outcome State Fault Refusal :=
  .next (if s.loader.station = .listening then enterRunning s else s)

/-- The transmitter at a Restart (R26): an attempt in progress ends with a break; a break runs on. -/
def Tx.atRestart : Tx → Tx
  | .quiet => .quiet
  | .sending .. => .breaking
  | .breaking => .breaking

/-- Restart (R26, R196): every block stops and discards its state, the line counters are kept, the station is Loading.
The settings of the discarded start are gone with it (log 27). -/
def restart (s : State) : State :=
  { State.reset with line := { Line.stopped with tx := s.line.tx.atRestart }, counters := s.counters
                     freeCount := s.freeCount, pending := s.pending }

/-- A taken Restart (R195). -/
def takeRestart (_ : InMsg) (s : State) : State := restart s

/-- RESTART (R195, R196). -/
def execRestart (s : State) : Host.Outcome State Fault Refusal :=
  .next (takeMessage (fun m => m.kind == .restart) takeRestart s)

end Sys2Proof.Machine
end

