-- ==== Sys2Proof/Machine/Receiver.lean ====
section
/-! DEFINITION. The receiver (01): characters, the open message, its check and its offer to the inbound queue; the
commands IDLE_TIME, LEAD_CHARACTER, DATA_CHARACTER, FRAMING_ERROR and MESSAGE_COMPLETE. -/

namespace Sys2Proof.Machine

/-! ### Small updates -/

/-- The state with the receiver changed. -/
def setReceiver (r : Receiver) (s : State) : State := { s with line := { s.line with receiver := r } }

/-- A start bit has arrived: slot counting is suspended until a new idle time is complete (R15, R16). -/
def startBit (s : State) : State := { s with line := { s.line with idleDone := false } }

/-- The receiver takes what is on the line: it is not off and the own transmitter is quiet (R3, R8). -/
def Line.listens (l : Line) : Bool := l.tx == .quiet && l.receiver != .off

/-- The receiver holds an open message. -/
def Receiver.isOpen : Receiver → Bool
  | .opened .. => true
  | _ => false

/-- An open message is discarded and counted in the named counter (R4, R6, R8). -/
def cutOpen (c : CounterName) (s : State) : State := if s.line.receiver.isOpen then count c s else s

/-! ### Idle time -/

/-- IDLE_TIME (R3): a hunting receiver is aligned again. -/
def execIdleTime (s : State) : Host.Outcome State Fault Refusal :=
  .next (if s.line.listens && s.line.receiver == .hunting then setReceiver .idle s else s)

/-! ### Lead characters -/

/-- A lead character handled by its destination (R4): an open message is cut; the new one is opened, skipped or
malformed. -/
def leadCharacter (data : Byte) (stamp : Nat) (s : State) : State :=
  let s := cutOpen .cut s
  if 63 < data.toNat then setReceiver .skipping (malformed s)
  else if data.toNat = 0 ∨ data.toNat = s.settings.station then setReceiver (.opened [data] stamp) s
  else setReceiver .skipping s

/-- LEAD_CHARACTER (R4): not read while the receiver hunts. -/
def execLeadCharacter (data : Byte) (moves : Nat) (s : State) : Host.Outcome State Fault Refusal :=
  .next (if s.line.listens && (Instr.leadCharacter data moves).wellFormed then
    (if s.line.receiver = .hunting then startBit s
    else leadCharacter data (s.clock.timeBefore moves) (startBit s))
  else s)

/-! ### Whole messages -/

/-- A valid message restarts the silence time and ends an isolation (R7, R23). -/
def heardValid (s : State) : State :=
  { s with line := { s.line with silence := .running (s.settings.silence * 1000)
                                 cond := if s.line.cond = .isolated then .heard else s.line.cond } }

/-- A message of these characters and this stamp, by its kind. -/
def messageOf (k : Kind) (chars : List Byte) (stamp : Nat) : InMsg :=
  { dest := byteAt chars 0, src := byteAt chars 1, kind := k, body := (chars.drop 4).take (byteAt chars 3)
    stamp := stamp }

/-- A valid message is tested against its kind and offered to the inbound queue (R7, R10). -/
def admitMessage (chars : List Byte) (stamp : Nat) (s : State) : State :=
  match Kind.ofCode (byteAt chars 2) with
  | some k => if k.lengthOk (byteAt chars 3) then offerInbound (messageOf k chars stamp) s else malformed s
  | none => malformed s

/-- A complete message (R7): its sum is checked; a valid one restarts the silence time and refreshes its source before
its kind is tested. The receiver returns to Idle in each case. -/
def completeMessage (chars : List Byte) (stamp : Nat) (s : State) : State :=
  let s := setReceiver .idle s
  if byteSum chars % 256 = 0 then admitMessage chars stamp (heardFrom (byteAt chars 1) (heardValid s))
  else count .checkErr s

/-- The characters make a whole message: 5 and the body length (R2, R5). -/
def isWhole (chars : List Byte) : Bool := 4 ≤ chars.length && chars.length == 5 + byteAt chars 3

/-- A source no other station has: 0, above 63, or the own number (R5). -/
def badSource (own src : Nat) : Bool := src == 0 || 63 < src || src == own

/-- The greatest body length (R2, R5). -/
def maxBody : Nat := 24

/-- A data character added to an open message, with the source, the length and the completion tested as they arrive
(R5). -/
def addCharacter (chars : List Byte) (stamp : Nat) (s : State) : State :=
  if chars.length = 2 ∧ badSource s.settings.station (byteAt chars 1) then setReceiver .skipping (malformed s)
  else if chars.length = 4 ∧ maxBody < byteAt chars 3 then setReceiver .skipping (malformed s)
  else if isWhole chars then completeMessage chars stamp s
  else setReceiver (.opened chars stamp) s

/-- DATA_CHARACTER (R5): ignored in Idle and Skipping, not read in Hunting. The last character of a message completes it
(R7, log 11). -/
def execDataCharacter (data : Byte) (s : State) : Host.Outcome State Fault Refusal :=
  .next (if s.line.listens then
    (match s.line.receiver with
      | .opened chars stamp => addCharacter (chars ++ [data]) stamp (startBit s)
      | .off | .hunting | .idle | .skipping => startBit s)
  else s)

/-- MESSAGE_COMPLETE (R7): the open message receives its last character. -/
def execMessageComplete (data : Byte) (s : State) : Host.Outcome State Fault Refusal :=
  .next (if s.line.listens then
    (match s.line.receiver with
      | .opened chars stamp =>
        if 4 ≤ chars.length ∧ isWhole (chars ++ [data]) then completeMessage (chars ++ [data]) stamp (startBit s) else s
      | .off | .hunting | .idle | .skipping => s)
  else s)

/-! ### Framing errors -/

/-- A framing error ends the alignment (R6). -/
def framingError (s : State) : State := setReceiver .hunting (cutOpen .framing s)

/-- FRAMING_ERROR (R6). -/
def execFramingError (s : State) : Host.Outcome State Fault Refusal :=
  .next (if s.line.listens then framingError (startBit s) else s)

end Sys2Proof.Machine
end

