-- ==== Sys2Proof/Machine/Reports.lean ====
section
/-! DEFINITION. The report unit (10): Queries and Reports; the commands QUERY_STATUS, QUERY_BLOCKS, QUERY_TRAINS,
QUERY_COUNTERS, QUERY_CUES, QUERY_PEERS, REPORT and FAULT_NOTICE. Raises and ends of fault classes are in Ops. -/

namespace Sys2Proof.Machine

/-! ### Codes of the Status report (12, Report contents) -/

/-- The code of the station state. -/
def StationState.code : StationState → Nat
  | .loading => 1 | .unconfigured => 2 | .listening => 3 | .running => 4

/-- The code of the line condition. -/
def LineCond.code : LineCond → Nat
  | .heard => 1 | .isolated => 2 | .stuck => 3

/-- The code of a phase. -/
def Phase.code : Phase → Nat
  | .night => 1 | .dawn => 2 | .day => 3 | .dusk => 4

/-- The code of a temperature state. -/
def TempState.code : TempState → Nat
  | .normal => 1 | .warm => 2 | .tripped => 3

/-- The code of a train record's state. -/
def TrainState.code : TrainState → Nat
  | .running => 1 | .approaching => 2 | .held => 3 | .stopped => 4 | .leaving => 5

/-- The code of a pending reversal. -/
def Reversal.code : Reversal → Nat
  | .none => 0
  | .pending => 1
  | .resume _ => 2

/-- The resume speed of a pending reversal, 0 if it keeps none. -/
def Reversal.speed : Reversal → Nat
  | .resume v => v
  | .none | .pending => 0

/-- The code of a pending claim's state. -/
def PClaim.stateCode (c : PClaim) : Nat :=
  match c.state with
  | .queued .. => 1
  | .sent .. => 2
  | .granted => 3

/-! ### Report contents, the kind byte first -/

/-- The flags byte of the Status report: bit 0 RateMismatch, bit 1 Jumps, bit 2 PeerOverflow. -/
def State.statusFlags (s : State) : Nat := bitsNat [s.clock.rateMismatch, s.clock.jumps, s.peers.overflow]

/-- The body of a Status report (R179). -/
def statusReport (s : State) : List Byte :=
  [toByte 1, toByte s.loader.station.code, toByte s.line.cond.code, toByte s.clock.phase.code] ++
    bytes4 s.clock.time ++ [toByte s.gov.level.code, toByte s.gov.temp.code] ++
    bytes2 s.faults.active.number ++ bytes2 s.faults.fresh.number ++ [toByte s.statusFlags, toByte s.cues.missed]

/-- The body of a Blocks report (R180). -/
def blocksReport (s : State) : List Byte :=
  [toByte 2, toByte s.settings.winBase, toByte s.settings.winSize] ++
    (s.blocks.map fun r => [toByte r.state.reported.code, toByte r.state.train]).flatten

/-- The last three bytes of a train record item: its pending claim (R181). -/
def claimItem (c : Option PClaim) : List Byte :=
  match c with
  | none => [0, 0, 0]
  | some c => [toByte c.stateCode, toByte c.block, toByte (c.owner.getD 0)]

/-- The train record item (R181). -/
def trainItem (s : State) (t : Train) : List Byte :=
  [toByte t.num, toByte t.dir.code, toByte (s.trainState t).code] ++ bytes2 t.target ++ bytes2 t.present ++
    [toByte t.trail.length, toByte (t.trail.getD 0 0), toByte (t.trail.getD 1 0), toByte (t.trail.getD 2 0),
      flagByte t.enteredFrom.isSome, toByte (t.enteredFrom.getD 0), toByte t.reversal.code] ++
    bytes2 t.reversal.speed ++ claimItem (s.claimOf t.num)

/-- The neighbour view item (R181). -/
def viewItem (e : ViewEntry) : List Byte :=
  [toByte e.block, toByte e.state.code, toByte e.train, toByte e.reporter, toByte e.age]

/-- The item a Trains query asks for (R181). -/
def trainsItem (s : State) (item : Nat) : List Byte :=
  if item < 4 then
    match s.trains.records[item]? with
    | some t => trainItem s t
    | none => []
  else if item < 20 then
    match s.trains.view[item - 4]? with
    | some e => viewItem e
    | none => []
  else []

/-- The body of a Trains report (R181). -/
def trainsReport (item : Nat) (s : State) : List Byte :=
  [toByte 3, toByte s.trains.records.length, toByte s.trains.view.length, toByte item] ++ trainsItem s item

/-- The body of a Counters report (R182). -/
def countersReport (s : State) : List Byte :=
  toByte 4 :: (s.counters.list.map fun c => toByte c.count) ++
    bytes2 (bitsNat (s.counters.list.map fun c => c.saturated))

/-- The body of a Cues report (R180). -/
def cuesReport (s : State) : List Byte := [toByte 5, toByte s.cues.cues.length, toByte s.cues.index]

/-- The body of a Peers report (R180). -/
def peersReport (s : State) : List Byte :=
  [toByte 6, toByte s.peers.entries.length, toByte (s.peers.entries.filter fun p => p.fresh).length]

/-! ### Taking a Query -/

/-- The report kind of a Query. -/
def queryKindOf (m : InMsg) : Nat := byteAt m.body 0

/-- The option of a Query. -/
def queryOptionOf (m : InMsg) : Nat := byteAt m.body 1

/-- The head is a Query for this command: its report kind is `code`, or is none of the six and malformed whichever
command takes it (log 10). -/
def isQuery (code : Nat) (m : InMsg) : Bool :=
  m.kind == .query && (queryKindOf m == code || !(1 ≤ queryKindOf m && queryKindOf m ≤ 6))

/-- A Query is answered (R178): not in Listening, and not one addressed to station 0. -/
def State.answers (s : State) (m : InMsg) : Bool := s.isRunning && m.dest != 0

/-- A taken Query (R178): the body of the Report is fixed, `clear` does what the kind clears, and the Report is offered.
-/
def takeQuery (code : Nat) (body : State → List Byte) (clear : State → State) (m : InMsg) (s : State) : State :=
  if queryKindOf m = code then
    (if s.answers m then offer (outMsg m.src .report (body s)) (clear s) else s)
  else malformed s

/-- A Status offer clears the new-fault set and the active flags of the momentary classes (R179). -/
def showFaults (s : State) : State :=
  { s with faults := { active := s.faults.active.clearMomentary, fresh := .empty } }

/-- All counters and saturated marks are cleared, if the option asks for it (R182, R24). -/
def clearCounters (option : Nat) (s : State) : State := if option = 1 then { s with counters := .zero } else s

/-- QUERY_STATUS (R178, R179). -/
def execQueryStatus (s : State) : Host.Outcome State Fault Refusal :=
  .next (takeMessage (isQuery 1) (takeQuery 1 statusReport showFaults) s)

/-- QUERY_BLOCKS (R178, R180). -/
def execQueryBlocks (s : State) : Host.Outcome State Fault Refusal :=
  .next (takeMessage (isQuery 2) (takeQuery 2 blocksReport id) s)

/-- QUERY_TRAINS (R178, R181). -/
def execQueryTrains (s : State) : Host.Outcome State Fault Refusal :=
  .next (takeMessage (isQuery 3) (fun m => takeQuery 3 (trainsReport (queryOptionOf m)) id m) s)

/-- QUERY_COUNTERS (R178, R182). -/
def execQueryCounters (s : State) : Host.Outcome State Fault Refusal :=
  .next (takeMessage (isQuery 4) (fun m => takeQuery 4 countersReport (clearCounters (queryOptionOf m)) m) s)

/-- QUERY_CUES (R178, R180). -/
def execQueryCues (s : State) : Host.Outcome State Fault Refusal :=
  .next (takeMessage (isQuery 5) (takeQuery 5 cuesReport id) s)

/-- QUERY_PEERS (R178, R180). -/
def execQueryPeers (s : State) : Host.Outcome State Fault Refusal :=
  .next (takeMessage (isQuery 6) (takeQuery 6 peersReport id) s)

/-! ### Reports and Fault notices of others -/

/-- A Report or Fault notice of another station is discarded without effect (R11, R178). -/
def discard (_ : InMsg) (s : State) : State := s

/-- REPORT (R11, R178). -/
def execReport (s : State) : Host.Outcome State Fault Refusal :=
  .next (takeMessage (fun m => m.kind == .report) discard s)

/-- FAULT_NOTICE (R11, R178). -/
def execFaultNotice (s : State) : Host.Outcome State Fault Refusal :=
  .next (takeMessage (fun m => m.kind == .faultNotice) discard s)

end Sys2Proof.Machine
end

