-- ==== Sys2Proof/Machine/Transmitter.lean ====
section
/-! DEFINITION. Line access and line conditions (01): idle time, slots, attempts, collisions, Stuck, silence; the
commands LINE_IDLE_COMPLETE, SLOT, ATTEMPT_START, COLLISION, BREAK_END, MESSAGE_SENT, LINE_STUCK and SILENCE_TIMEOUT. -/

namespace Sys2Proof.Machine

/-! ### The two queues by class -/

/-- The outbound queue of a class. -/
def Line.queue (l : Line) (urgent : Bool) : OutQueue := if urgent then l.urgent else l.routine

/-- The line controller with the queue of a class changed. -/
def Line.setQueue (l : Line) (urgent : Bool) (q : OutQueue) : Line :=
  if urgent then { l with urgent := q } else { l with routine := q }

/-- The queue with its head changed. -/
def OutQueue.mapHead (f : Head → Head) (q : OutQueue) : OutQueue := { q with head := q.head.map f }

/-- The line controller with both heads changed. -/
def Line.mapHeads (f : Head → Head) (l : Line) : Line :=
  { l with urgent := l.urgent.mapHead f, routine := l.routine.mapHead f }

/-! ### Idle time and slots -/

/-- The condition Stuck is left for (R22). -/
def Line.condAfterStuck (l : Line) : LineCond := if l.silence = .ranOut then .isolated else .heard

/-- Stuck is left (R22, R23): LineStuck ends, and a line that becomes Isolated makes every peer entry Stale. -/
def leaveStuck (s : State) : State :=
  let cond := s.line.condAfterStuck
  let s := endFault .lineStuck { s with line := { s.line with cond := cond } }
  if cond = .isolated then makeAllStale s else s

/-- The idle time is complete (R15): slot counting begins for the heads that are there. -/
def idleComplete (s : State) : State :=
  { s with line := { (s.line.mapHeads fun h => { h with counting := true }) with idleDone := true } }

/-- LINE_IDLE_COMPLETE (R15, R22). DESIGN CHOICE (log 35): a message offered within the leaving of Stuck (a Block state,
when peers turn Stale) counts as present at the start of the first slot; the spec does not order the two. -/
def execLineIdleComplete (s : State) : Host.Outcome State Fault Refusal :=
  .next (if s.active && s.line.tx == .quiet then
    idleComplete (if s.line.cond = .stuck then leaveStuck s else s)
  else s)

/-- A head at the end of a slot (R15): one slot less if it was present at the slot's start and has slots left. -/
def Head.slotDone (h : Head) : Head :=
  { h with slots := if h.counting then h.slots - 1 else h.slots, counting := true }

/-- SLOT (R15). -/
def execSlot (s : State) : Host.Outcome State Fault Refusal :=
  .next (if s.active && s.line.tx == .quiet && s.line.idleDone && s.line.cond != .stuck then
    { s with line := s.line.mapHeads Head.slotDone }
  else s)

/-! ### Attempts -/

/-- The queue's head has no slots left to wait. -/
def OutQueue.ready (q : OutQueue) : Bool :=
  match q.head with
  | some h => h.slots == 0
  | none => false

/-- The line is open to an attempt (R16). -/
def State.mayBegin (s : State) : Bool :=
  s.isRunning && s.line.tx == .quiet && s.line.cond != .stuck && s.line.idleDone

/-- The message as it will be sent: a Time mark carries the scene time of the attempt (R16, R47). -/
def OutMsg.atAttempt (time : Nat) (m : OutMsg) : OutMsg :=
  if m.kind = .timeMark then { m with body := bytes4 time ++ m.body.drop 4 } else m

/-- A head in hand, its message written for the attempt (R16). -/
def Head.begun (time : Nat) (h : Head) : Head := { h with msg := h.msg.atAttempt time, inHand := true }

/-- The receiver after the start of an own attempt (R8): a message still open is ended. -/
def Receiver.atAttempt : Receiver → Receiver
  | .opened .. => .idle
  | .off => .off
  | .hunting => .hunting
  | .idle => .idle
  | .skipping => .skipping

/-- The head of a class begins an attempt (R8, R16). -/
def beginAttempt (urgent : Bool) (s : State) : State :=
  match (s.line.queue urgent).head with
  | none => s
  | some h =>
    let h := h.begun s.clock.time
    let s := cutOpen .cut s
    let line := s.line.setQueue urgent { s.line.queue urgent with head := some h }
    { s with line := { line with receiver := s.line.receiver.atAttempt, idleDone := false
                                 tx := .sending urgent (messageChars s.settings.station h.msg) } }

/-- ATTEMPT_START (R16): the urgent head before the routine head. -/
def execAttemptStart (s : State) : Host.Outcome State Fault Refusal :=
  .next (if s.mayBegin then
    (if s.line.urgent.ready then beginAttempt true s
    else if s.line.routine.ready then beginAttempt false s
    else s)
  else s)

/-! ### Outcomes told to the train table -/

/-- The claim of this sending returns to Queued with its retry wait (R96). -/
def PClaim.lost (ticket : Nat) (c : PClaim) : PClaim :=
  match c.state with
  | .sent n _ => if n = ticket then { c with state := .queued (some retryMs) none } else c
  | .queued .. => c
  | .granted => c

/-- The answer timer of the claim of this sending starts (R96). -/
def PClaim.wentOut (ticket : Nat) (c : PClaim) : PClaim :=
  match c.state with
  | .sent n _ => if n = ticket then { c with state := .sent n (some answerMs) } else c
  | .queued .. => c
  | .granted => c

/-- The outcome of a message is told to the claim it was sent for, if any (R12, R96, log 8). The other blocks do nothing
with an outcome. -/
def tellOutcome (f : Nat → PClaim → PClaim) (m : OutMsg) (s : State) : State :=
  match m.ticket with
  | some n => { s with trains := { s.trains with claims := s.trains.claims.map (f n) } }
  | none => s

/-! ### Collisions -/

/-- The attempts a message has (R12, R19). -/
def maxAttempts : Nat := 8

/-- The modulus m_k of the backoff draw after attempt k collided (R18). -/
def backoffModulus : Nat → Nat
  | 1 => 7
  | 2 => 11
  | 3 => 13
  | 4 => 16
  | 5 => 17
  | 6 => 19
  | _ => 23

/-- The remaining slots after attempt k collided (R18). -/
def backoff (station k : Nat) (urgent : Bool) : Nat := station % backoffModulus k + 1 + (if urgent then 0 else 2)

/-- A head whose attempt collided (R18). -/
def Head.collided (station : Nat) (urgent : Bool) (h : Head) : Head :=
  { h with attempt := h.attempt + 1, slots := backoff station h.attempt urgent }

/-- The head of a class is given up (R19). -/
def giveUp (urgent : Bool) (h : Head) (s : State) : State :=
  tellOutcome PClaim.lost h.msg
    (count .giveUps { s with line := s.line.setQueue urgent (s.line.queue urgent).pop })

/-- The queue side of a collision (R18, R19). -/
def collide (urgent : Bool) (s : State) : State :=
  match (s.line.queue urgent).head with
  | none => s
  | some h =>
    if h.attempt < maxAttempts then
      { s with line := s.line.setQueue urgent
                 { s.line.queue urgent with head := some (h.collided s.settings.station urgent) } }
    else giveUp urgent h s

/-- The state with the transmitter changed. -/
def setTx (t : Tx) (s : State) : State := { s with line := { s.line with tx := t } }

/-- COLLISION (R17, R18, R19): the attempt ends and the transmitter drives a break. -/
def execCollision (s : State) : Host.Outcome State Fault Refusal :=
  .next (match s.line.tx with
    | .sending urgent _ => setTx .breaking (collide urgent (count .collisions s))
    | .quiet | .breaking => s)

/-- BREAK_END (R8, R26): the receiver hunts, unless the station has restarted meanwhile. -/
def execBreakEnd (s : State) : Host.Outcome State Fault Refusal :=
  .next (match s.line.tx with
    | .breaking => setTx .quiet (setReceiver (if s.active then .hunting else .off) s)
    | .quiet | .sending .. => s)

/-- The head of a class has been sent (R20). -/
def sent (urgent : Bool) (s : State) : State :=
  match (s.line.queue urgent).head with
  | none => s
  | some h =>
    tellOutcome PClaim.wentOut h.msg { s with line := s.line.setQueue urgent (s.line.queue urgent).pop }

/-- MESSAGE_SENT (R8, R20). -/
def execMessageSent (s : State) : Host.Outcome State Fault Refusal :=
  .next (match s.line.tx with
    | .sending urgent _ => setTx .quiet (setReceiver .idle (sent urgent s))
    | .quiet | .breaking => s)

/-! ### Stuck and silence -/

/-- The line becomes Stuck (R21): the receiver is Hunting, and LineStuck is raised. -/
def enterStuck (s : State) : State :=
  let s := framingError (startBit s)
  raiseFault .lineStuck 0 { s with line := { s.line with cond := .stuck } }

/-- The transmitter is sending an attempt. -/
def Tx.isSending : Tx → Bool
  | .sending .. => true
  | _ => false

/-- LINE_STUCK (R21): an attempt in progress has ended by a mismatch first. -/
def execLineStuck (s : State) : Host.Outcome State Fault Refusal :=
  .next (if s.active && s.line.cond != .stuck && !s.line.tx.isSending then enterStuck s else s)

/-- The silence time has run out (R23, R34). -/
def silenceOut (s : State) : State :=
  let s' := { s with line := { s.line with silence := .ranOut } }
  if s.line.cond = .heard then makeAllStale { s' with line := { s'.line with cond := .isolated } } else s'

/-- The silence time is running. -/
def Silence.isRunning : Silence → Bool
  | .running _ => true
  | _ => false

/-- SILENCE_TIMEOUT (R23). -/
def execSilenceTimeout (s : State) : Host.Outcome State Fault Refusal :=
  .next (if s.active && s.line.silence.isRunning then silenceOut s else s)

end Sys2Proof.Machine
end

