-- ==== Sys2Proof/Machine/Dispatch.lean ====
section
/-! DEFINITION. The dispatch: one arm for each command, one direct call of its meaning. -/

namespace Sys2Proof.Machine

/-- What a command does to everything but the queue of waiting commands. -/
def exec (i : Instr) (s : State) : Host.Outcome State Fault Refusal :=
  match i with
  | .powerOn => Sys2Proof.Machine.execPowerOn s
  | .memoryTransactionFailure cause => Sys2Proof.Machine.execMemoryTransactionFailure cause s
  | .memoryRetryWaitEnd => Sys2Proof.Machine.execMemoryRetryWaitEnd s
  | .configurationReadComplete record => Sys2Proof.Machine.execConfigurationReadComplete record s
  | .listeningWindowEnd => Sys2Proof.Machine.execListeningWindowEnd s
  | .idleTime => Sys2Proof.Machine.execIdleTime s
  | .leadCharacter data moves => Sys2Proof.Machine.execLeadCharacter data moves s
  | .dataCharacter data => Sys2Proof.Machine.execDataCharacter data s
  | .framingError => Sys2Proof.Machine.execFramingError s
  | .messageComplete data => Sys2Proof.Machine.execMessageComplete data s
  | .lineIdleComplete => Sys2Proof.Machine.execLineIdleComplete s
  | .slot => Sys2Proof.Machine.execSlot s
  | .attemptStart => Sys2Proof.Machine.execAttemptStart s
  | .collision => Sys2Proof.Machine.execCollision s
  | .breakEnd => Sys2Proof.Machine.execBreakEnd s
  | .messageSent => Sys2Proof.Machine.execMessageSent s
  | .lineStuck => Sys2Proof.Machine.execLineStuck s
  | .silenceTimeout => Sys2Proof.Machine.execSilenceTimeout s
  | .claim => Sys2Proof.Machine.execClaim s
  | .release => Sys2Proof.Machine.execRelease s
  | .trainPlace => Sys2Proof.Machine.execTrainPlace s
  | .grant => Sys2Proof.Machine.execGrant s
  | .refuse => Sys2Proof.Machine.execRefuse s
  | .blockState => Sys2Proof.Machine.execBlockState s
  | .trainOrderSpeed => Sys2Proof.Machine.execTrainOrderSpeed s
  | .trainOrderStop => Sys2Proof.Machine.execTrainOrderStop s
  | .trainOrderReverse => Sys2Proof.Machine.execTrainOrderReverse s
  | .trainOrderRemove => Sys2Proof.Machine.execTrainOrderRemove s
  | .timeMark => Sys2Proof.Machine.execTimeMark s
  | .announce => Sys2Proof.Machine.execAnnounce s
  | .showEvent => Sys2Proof.Machine.execShowEvent s
  | .cueLoad => Sys2Proof.Machine.execCueLoad s
  | .cueClear => Sys2Proof.Machine.execCueClear s
  | .lampOrderSet => Sys2Proof.Machine.execLampOrderSet s
  | .lampOrderClear => Sys2Proof.Machine.execLampOrderClear s
  | .rotaryOrderRun => Sys2Proof.Machine.execRotaryOrderRun s
  | .rotaryOrderStop => Sys2Proof.Machine.execRotaryOrderStop s
  | .rotaryOrderClear => Sys2Proof.Machine.execRotaryOrderClear s
  | .powerOrder => Sys2Proof.Machine.execPowerOrder s
  | .queryStatus => Sys2Proof.Machine.execQueryStatus s
  | .queryBlocks => Sys2Proof.Machine.execQueryBlocks s
  | .queryTrains => Sys2Proof.Machine.execQueryTrains s
  | .queryCounters => Sys2Proof.Machine.execQueryCounters s
  | .queryCues => Sys2Proof.Machine.execQueryCues s
  | .queryPeers => Sys2Proof.Machine.execQueryPeers s
  | .report => Sys2Proof.Machine.execReport s
  | .faultNotice => Sys2Proof.Machine.execFaultNotice s
  | .restart => Sys2Proof.Machine.execRestart s
  | .ageStep => Sys2Proof.Machine.execAgeStep s
  | .announceInterval => Sys2Proof.Machine.execAnnounceInterval s
  | .clockStep => Sys2Proof.Machine.execClockStep s
  | .timeMarkInterval => Sys2Proof.Machine.execTimeMarkInterval s
  | .detectorSample currents sensors => Sys2Proof.Machine.execDetectorSample currents sensors s
  | .cooloffEnd block => Sys2Proof.Machine.execCooloffEnd block s
  | .reservationExpiry block => Sys2Proof.Machine.execReservationExpiry block s
  | .speedStep => Sys2Proof.Machine.execSpeedStep s
  | .answerTimeout train => Sys2Proof.Machine.execAnswerTimeout train s
  | .retryWaitEnd train => Sys2Proof.Machine.execRetryWaitEnd train s
  | .governorStep temperature => Sys2Proof.Machine.execGovernorStep temperature s
  | .lampStep => Sys2Proof.Machine.execLampStep s
  | .rotaryStep => Sys2Proof.Machine.execRotaryStep s
  | .indexPulse channel => Sys2Proof.Machine.execIndexPulse channel s
  | .heldTimerExpiry channel => Sys2Proof.Machine.execHeldTimerExpiry channel s
  | .stallTimerExpiry channel => Sys2Proof.Machine.execStallTimerExpiry channel s
  | .ownEvent => Sys2Proof.Machine.execOwnEvent s

end Sys2Proof.Machine
end

