-- ==== Sys2Proof/Safety.lean ====
section
/-! DEFINITION. The words the claims use: what stands in the outbound queues, receiving a whole message, and the
invariants of the station, each with the rule that bounds the state so. -/

namespace Sys2Proof.Machine

/-! ### Words -/

/-- The state after the head of the inbound queue has left it, `rest` being what is behind it (R11). -/
def State.took (s : State) (rest : List InMsg) : State := { s with line := { s.line with inbound := rest } }

/-- The messages an outbound queue holds, the head first. -/
def OutQueue.msgs (q : OutQueue) : List OutMsg := (q.head.map fun h => h.msg).toList ++ q.rest

/-- The characters of a message arrive at the receiver one after another: LEAD_CHARACTER, then DATA_CHARACTERs. -/
def receiveAll (chars : List Byte) (s : State) : Host.Outcome State Fault Refusal :=
  match chars with
  | [] => .next s
  | c :: cs =>
    cs.foldl (fun o d => match o with
      | .next t => exec (.dataCharacter d) t
      | o => o) (exec (.leadCharacter c 0) s)

/-- The command answers a next state, and `P` holds of it. -/
def Answers (c : Instr) (s : State) (P : State → Prop) : Prop := ∃ t, exec c s = .next t ∧ P t

/-- The head of the inbound queue is `m` and the station is at work, so `m` can be taken (R11). -/
def State.offersHead (s : State) (m : InMsg) (rest : List InMsg) : Prop :=
  s.active = true ∧ s.line.inbound = m :: rest

/-- A message has left the inbound queue, found malformed: it is discarded, Malformed counts 1, and nothing else happens
(R11). -/
def State.tookMalformed (s : State) (rest : List InMsg) : State :=
  { s.took rest with counters := s.counters.bump .malformed }

/-- An invariant that every step keeps. -/
def KeptByStep (inv : State → Prop) : Prop := ∀ s t : State, inv s → step s = .next t → inv t

/-- The messages are offered in this order, and nothing else changes the line controller or its counters. -/
def State.sends (s t : State) (msgs : List OutMsg) : Prop :=
  let u := msgs.foldl (fun s m => offer m s) s
  t.line = u.line ∧ t.counters = u.counters

/-- The train table is as before but for the states derived afresh: a record that is Held now stands still (R80). -/
def State.restated (s t : State) : Prop :=
  t.trains = { s.trains with records := s.trains.records.map t.stopIfHeld }

/-- Nothing but block records, the train table, the outbound queues, OutDrop and the count of free choices may differ. -/
def State.changesTrack (s t : State) : Prop :=
  t = { s with blocks := t.blocks, trains := t.trains, freeCount := t.freeCount
               line := { s.line with urgent := t.line.urgent, routine := t.line.routine }
               counters := { s.counters with outDrop := t.counters.outDrop } }

/-- Nothing but the parts a settling of the clash marks reaches may differ: peer entries, fault sets, and what
`changesTrack` names. -/
def State.changesClash (s t : State) : Prop :=
  t = { s with blocks := t.blocks, trains := t.trains, freeCount := t.freeCount, faults := t.faults
               peers := { s.peers with entries := t.peers.entries }
               line := { s.line with urgent := t.line.urgent, routine := t.line.routine }
               counters := { s.counters with outDrop := t.counters.outDrop } }

/-- Nothing but the parts an action reaches may differ (R163, R165): overrides, power level, rotary channels, cue unit,
fault sets, and what `changesTrack` names. Lamp levels, lamp latches and cues stay. -/
def State.changesByActions (s t : State) : Prop :=
  t = { s with blocks := t.blocks, trains := t.trains, freeCount := t.freeCount, faults := t.faults
               rotary := t.rotary
               gov := { s.gov with level := t.gov.level }
               lamps := { s.lamps with
                 a := { s.lamps.a with override := t.lamps.a.override }
                 b := { s.lamps.b with override := t.lamps.b.override }
                 c := { s.lamps.c with override := t.lamps.c.override }
                 d := { s.lamps.d with override := t.lamps.d.override } }
               cues := { s.cues with index := t.cues.index, cueTime := t.cues.cueTime
                                     own := t.cues.own, missed := t.cues.missed }
               line := { s.line with urgent := t.line.urgent, routine := t.line.routine }
               counters := { s.counters with outDrop := t.counters.outDrop } }

/-- The entries with their Clash marks as settling leaves them (R36). -/
def Peer.settled (st : Settings) (p : Peer) : Peer := { p with clash := p.clashes st }

/-- The fault class Clash follows the number of marked entries (R37): it starts when that leaves 0 and ends when that
comes to 0; otherwise the fault sets stay. -/
def State.clashFollows (s t : State) : Prop :=
  let before := s.peers.entries.any fun p => p.clash
  let after := t.peers.entries.any fun p => p.clash
  t.faults =
    { active := if before = after then s.faults.active else s.faults.active.set .clash after
      fresh := if !before && after then s.faults.fresh.set .clash true else s.faults.fresh }

/-- The kind of message a command takes from the inbound queue, if it takes one (R11). -/
def kindTaken : Instr → Option Kind
  | .claim => some .claim
  | .release => some .release
  | .trainPlace => some .trainPlace
  | .grant => some .grant
  | .refuse => some .refuse
  | .blockState => some .blockState
  | .trainOrderSpeed | .trainOrderStop | .trainOrderReverse | .trainOrderRemove => some .trainOrder
  | .timeMark => some .timeMark
  | .announce => some .announce
  | .showEvent => some .showEvent
  | .cueLoad => some .cueLoad
  | .cueClear => some .cueClear
  | .lampOrderSet | .lampOrderClear => some .lampOrder
  | .rotaryOrderRun | .rotaryOrderStop | .rotaryOrderClear => some .rotaryOrder
  | .powerOrder => some .powerOrder
  | .queryStatus | .queryBlocks | .queryTrains | .queryCounters | .queryCues | .queryPeers => some .query
  | .report => some .report
  | .faultNotice => some .faultNotice
  | .restart => some .restart
  | .powerOn | .memoryTransactionFailure _ | .memoryRetryWaitEnd | .configurationReadComplete _ | .listeningWindowEnd
  | .idleTime | .leadCharacter _ _ | .dataCharacter _ | .framingError | .messageComplete _ | .lineIdleComplete | .slot
  | .attemptStart | .collision | .breakEnd | .messageSent | .lineStuck | .silenceTimeout | .ageStep | .announceInterval
  | .clockStep | .timeMarkInterval | .detectorSample _ _ | .cooloffEnd _ | .reservationExpiry _ | .speedStep
  | .answerTimeout _ | .retryWaitEnd _ | .governorStep _ | .lampStep | .rotaryStep | .indexPulse _
  | .heldTimerExpiry _ | .stallTimerExpiry _ | .ownEvent => none

/-- What becomes of the claim of a sending: it returns to Queued with a retry wait of 1 s, unless its answer has come
(R96). -/
def PClaim.afterLoss (n : Nat) (c : PClaim) : PClaim :=
  match c.state with
  | .sent k _ => if k = n then { c with state := .queued (some 1000) none } else c
  | .queued _ _ | .granted => c

/-- What becomes of the claim of a sending once its message is out: its answer timer of 2 s starts (R96, R99). -/
def PClaim.afterSending (n : Nat) (c : PClaim) : PClaim :=
  match c.state with
  | .sent k _ => if k = n then { c with state := .sent k (some 2000) } else c
  | .queued _ _ | .granted => c

/-- The message as an attempt sends it: a Time mark carries the scene time of the attempt (R16). -/
def OutMsg.written (time : Nat) (m : OutMsg) : OutMsg :=
  if m.kind = .timeMark then { m with body := bytes4 time ++ m.body.drop 4 } else m

/-- Block `b` becomes Free: the record changes, the train table derives its states afresh, and the change is broadcast
(R64); nothing else happens. -/
def State.frees (s : State) (b : Nat) (t : State) : Prop :=
  s.changesTrack t ∧ t.freeCount = s.freeCount ∧ s.restated t ∧
    s.sends t [outMsg 0 .blockState [toByte b, 0, 0, toByte s.settings.station]] ∧
    t.blocks = s.blocks.map fun r => if r.number = b then { r with state := .free } else r

/-- Block `b` becomes `st`: the record changes, the train table derives its states afresh, and the change is broadcast
(R64); nothing else happens. -/
def State.turns (s : State) (b : Nat) (st : BlockState) (t : State) : Prop :=
  s.changesTrack t ∧ t.freeCount = s.freeCount ∧ s.restated t ∧
    s.sends t [outMsg 0 .blockState [toByte b, toByte st.reported.code, toByte st.train, toByte s.settings.station]] ∧
    t.blocks = s.blocks.map fun r => if r.number = b then { r with state := st } else r

/-- The messages `msgs`, in their order, are offered among the routine messages that stand from place `lo` on in `u`, each
in any place (R12): the queue keeps the first six messages of the order so made, and OutDrop counts the others (R13). -/
def State.offersAmong (lo : Nat) (msgs : List OutMsg) (u t : State) : Prop :=
  let later := u.line.routine.msgs.drop lo
  ∃ mixed : List OutMsg, mixed.Perm (later ++ msgs) ∧ later.Sublist mixed ∧ msgs.Sublist mixed ∧
    t.line.routine.msgs = (u.line.routine.msgs.take lo ++ mixed).take 6 ∧
    t.counters.outDrop =
      ((List.replicate (u.line.routine.msgs.length + msgs.length - 6) ()).foldl (fun (c : Counters) _ => c.bump .outDrop)
        u.counters).outDrop

/-- The blocked set of the peer entries is handed to the track unit (R36, R76, R77): in ascending block order each own
block in it that is not Blocked becomes Blocked, and each Blocked one outside it becomes Free or Intruded. -/
def State.takesBlockedSet (s : State) : State :=
  s.blockNumbers.foldl (fun v b =>
    if inBlockedSet s.peers.entries b then (if v.blockState b = some .blocked then v else joinBlocked b v)
    else if v.blockState b = some .blocked then leaveBlocked b v
    else v) s

/-- `t` is `s`, whose peer entries have changed and their Clash marks been settled, after the blocked set has been taken
and the pending claims told of an Announce by `told`: block records, train table and urgent queue are as that leaves them;
the notice of a Clash that starts (R37, R185) stands in any place among its routine offers (R12, log 6), and without one
the routine queue is as that leaves it. `before` tells whether Clash was active. -/
def State.settlesBlocks (s : State) (before : Bool) (told : PClaim → PClaim) (t : State) : Prop :=
  let u := s.takesBlockedSet
  let marked := s.peers.entries.filter fun p => p.clash
  t.blocks = u.blocks ∧ t.trains = { u.trains with claims := u.trains.claims.map told } ∧
    t.line.urgent = u.line.urgent ∧
    ((before = true ∨ marked = [] ∨ s.settings.mask.clash = true ∨ s.isRunning = false) →
      t.line = u.line ∧ t.counters = u.counters ∧ t.freeCount = u.freeCount) ∧
    (before = false → s.settings.mask.clash = false → s.isRunning = true → u.line.routine.msgs.length ≤ 6 →
      (s.line.routine.head = none → s.line.routine.rest = []) → ∀ p ∈ marked.head?,
      State.offersAmong s.line.routine.msgs.length
        [outMsg 0 .faultNotice [2, toByte (p.station / 256), toByte p.station]] u t)

/-- A record is Reserved for this train and holder station. -/
def BlockState.heldFor (train station : Nat) : BlockState → Bool
  | .reserved v => v.train == train && v.station == station
  | .free | .occupied _ | .intruded | .blocked => false

/-- A record is Occupied by this train. -/
def BlockState.takenBy (train : Nat) : BlockState → Bool
  | .occupied n => n == train
  | .free | .reserved _ | .intruded | .blocked => false

/-- A Sent claim whose answer timer runs out (R99): Queued again with a retry wait of 1 s. -/
def PClaim.unanswered (c : PClaim) : PClaim :=
  match c.state with
  | .sent _ (some _) => { c with state := .queued (some 1000) none }
  | .sent _ none | .queued _ _ | .granted => c

/-- A Queued claim whose retry wait ends (R96). -/
def PClaim.waited (c : PClaim) : PClaim :=
  match c.state with
  | .queued (some _) w => { c with state := .queued none w }
  | .queued none _ | .sent _ _ | .granted => c

/-- The clock standing at a new scene time (R42, R52, R56, R57). -/
def Clock.standsAt (st : Settings) (c : Clock) (now owed : Nat) : Clock :=
  { c with time := now, owed := owed, phase := phaseAt st now, daylight := daylightAt st now
           recent := (c.time :: c.recent).take 9 }

/-- The index after scene time has moved to `now`: past every cue whose trigger point that reaches, counted from the
start of the list if the day has wrapped (R161, R162, R166, R168). -/
def CueUnit.indexAt (u : CueUnit) (now : Nat) : Nat :=
  if u.cueTime ≤ now then u.index + ((u.cues.drop u.index).takeWhile fun c => c.minute * 60000 ≤ now).length
  else (u.cues.takeWhile fun c => c.minute * 60000 ≤ now).length

/-! ### Invariants -/

/-- Nothing is sent and nothing waits to be sent unless the station is Running (R12, R16, R26). -/
def State.silentUnlessRunning (s : State) : Prop :=
  s.isRunning = false → s.line.urgent = .empty ∧ s.line.routine = .empty ∧ s.line.tx.isSending = false

/-- An outbound queue is in form: nothing stands behind an absent head, the head is on attempt 1 to 8 (R14, R19), and
every message is of the queue's class (R10, R12). -/
def OutQueue.inForm (urgent : Bool) (q : OutQueue) : Prop :=
  (q.head = none → q.rest = []) ∧ (∀ h ∈ q.head, 1 ≤ h.attempt ∧ h.attempt ≤ maxAttempts) ∧
    ∀ m ∈ q.msgs, m.kind.urgent = urgent

/-- The queues keep their sizes (R10, R12, R13), the routine queue holds at most one Time mark and one Announce (R13),
and no line counter passes 255 or is marked saturated below it (R24). -/
def State.lineBounded (s : State) : Prop :=
  s.line.inbound.length ≤ inboundLimit ∧
    s.line.urgent.msgs.length ≤ urgentLimit ∧ s.line.routine.msgs.length ≤ routineLimit ∧
    s.line.urgent.inForm true ∧ s.line.routine.inForm false ∧
    (s.line.routine.msgs.filter fun m => m.kind == .timeMark).length ≤ 1 ∧
    (s.line.routine.msgs.filter fun m => m.kind == .announce).length ≤ 1 ∧
    ∀ c ∈ s.counters.list, c.count ≤ 255 ∧ (c.saturated = true → c.count = 255)

/-- A source another station can have: 1 to 63, not the own number (R5). -/
def State.otherStation (s : State) (n : Nat) : Prop := 1 ≤ n ∧ n ≤ 63 ∧ n ≠ s.settings.station

/-- The source an open message has, once its second character is there, is one another station can have (R5). -/
def State.openSourceOk (s : State) : Prop :=
  match s.line.receiver with
  | .opened chars _ => chars = [] ∨ chars.length = 1 ∨ s.otherStation (byteAt chars 1)
  | .off | .hunting | .idle | .skipping => True

/-- The peer table is in form: at most 16 entries, each of another station, in strictly ascending station number (R27),
their Clash marks settled (R36); the messages it may learn from name other stations too (R5). -/
def State.peersKept (s : State) : Prop :=
  s.peers.entries.length ≤ peerLimit ∧
    (s.peers.entries.map fun p => p.station).Pairwise (· < ·) ∧
    (∀ p ∈ s.peers.entries, s.otherStation p.station ∧ p.clash = p.clashes s.settings) ∧
    (∀ m ∈ s.line.inbound, s.otherStation m.src) ∧ s.openSourceOk

/-- The block records are those of the own window, in ascending order (R58), and a record is Blocked exactly while its
block lies in the window of an entry carrying the Clash mark (R36, R76, R77). -/
def State.blockedInClash (s : State) : Prop :=
  s.blockNumbers = (List.range s.settings.winSize).map (fun i => s.settings.winBase + i) ∧
    ∀ r ∈ s.blocks, (r.state = .blocked ↔ inBlockedSet s.peers.entries r.number = true)

/-- The arrival stamp of an open message is a scene time. -/
def State.openStampOk (s : State) : Prop :=
  match s.line.receiver with
  | .opened _ stamp => stamp < dayMs
  | .off | .hunting | .idle | .skipping => True

/-- Scene time and catch-up stay in their ranges (R43), phase and daylight level are those of the scene time (R56, R57),
the cue time is the scene time (R159), and every arrival stamp is a scene time (R9). -/
def State.sceneTimeKept (s : State) : Prop :=
  s.clock.time < dayMs ∧ s.clock.owed < jumpFrom ∧
    s.clock.phase = phaseAt s.settings s.clock.time ∧ s.clock.daylight = daylightAt s.settings s.clock.time ∧
    s.cues.cueTime = s.clock.time ∧
    (∀ t ∈ s.clock.recent, t < dayMs) ∧ (∀ m ∈ s.line.inbound, m.stamp < dayMs) ∧ s.openStampOk

/-- The trains that stand here or may come by a reservation: those with a record and the holders of Reserved records. -/
def State.trainsNear (s : State) : List Nat :=
  s.trainNumbers ++ s.blocks.filterMap fun r => match r.state with
    | .reserved v => some v.train
    | .free | .occupied _ | .intruded | .blocked => none

/-- The train table is in form: at most 4 records (R79), in strictly ascending train number (log 25), each with a trail of
1 to 3 blocks that lie in the own window and are Occupied by the train (R79), each Held record standing still (R80);
claims of recorded trains, at most one for each, at most 2 Sent (R94); a neighbour view of at most 16 blocks (R102) in
strictly ascending number (log 25). The 4 records stay so because trains with a record and trains that hold a reservation
are together at most 4 (R67, log 26). -/
def State.trainsKept (s : State) : Prop :=
  s.trainNumbers.Pairwise (· < ·) ∧
    s.trains.records.length ≤ 4 ∧
    (∃ near : List Nat, near.length ≤ 4 ∧ ∀ n ∈ s.trainsNear, n ∈ near) ∧
    (∀ b ∈ s.blockNumbers, s.settings.owns b = true) ∧
    (∀ t ∈ s.trains.records,
      1 ≤ t.trail.length ∧ t.trail.length ≤ 3 ∧ (s.trainState t = .held → t.present = 0) ∧
      ∀ b ∈ t.trail, s.settings.owns b = true ∧ s.blockState b = some (.occupied t.num)) ∧
    (s.trains.claims.map fun c => c.train).Nodup ∧ (∀ c ∈ s.trains.claims, s.hasTrain c.train = true) ∧
    s.sentCount ≤ sentLimit ∧
    s.trains.view.length ≤ viewLimit ∧ (s.trains.view.map fun e => e.block).Pairwise (· < ·)

/-- While the governor is Tripped every lamp is dark and held dark, no booster of a station at work drives a train (R63),
no rotary is in motion and the allowance is 0 (R122, R141); at any other time the trip mark is clear (R142). -/
def State.quietInTrip (s : State) : Prop :=
  (s.gov.temp = .tripped →
    s.lamps.tripMark = true ∧ (∀ x ∈ s.lamps.channels, x.present = 0 ∧ x.wanted = 0 ∧ x.duty = 0) ∧
      (s.active = true → ∀ b ∈ s.blocks, s.booster b = .sensing ∨ (s.booster b = .coolOff ∧ b.coolOff ≠ none)) ∧
      s.rotary.ch0.state.inMotion = false ∧ s.rotary.ch1.state.inMotion = false ∧ s.gov.allowance = 0) ∧
    (s.gov.temp ≠ .tripped → s.lamps.tripMark = false)

/-- A rotary channel is in form: the stall timer runs exactly in Running and Seeking (R154); the Held timer runs only in
an ordinary Held (R150); the park-only mark stands only in Held and Halted, with no count (R147, R148, R151); the drive
is 0 wherever the channel does not turn (R145). -/
def Rotary.inForm (r : Rotary) : Prop :=
  (r.stallTimer.isSome = true ↔ r.state = .running ∨ r.state = .seeking) ∧
    (r.heldTimer.isSome = true → r.state = .held ∧ r.parkOnly = false) ∧
    (r.parkOnly = true → (r.state = .held ∨ r.state = .halted) ∧ r.remaining = 0) ∧
    (r.state.inMotion = false → r.drive = 0)

/-- Both rotary channels are in form. -/
def State.rotariesKept (s : State) : Prop := s.rotary.ch0.inForm ∧ s.rotary.ch1.inForm

/-- The cue list is in form: at most 32 cues in non-decreasing minutes, the index between those whose minute the cue time
has reached and those it has not (R159); at most 8 own events wait, Missed stays in 0..255 (R165, R167). -/
def State.cuesKept (s : State) : Prop :=
  s.cues.cues.length ≤ cueLimit ∧ (s.cues.cues.map fun c => c.minute).Pairwise (· ≤ ·) ∧
    s.cues.index ≤ s.cues.cues.length ∧
    (∀ c ∈ s.cues.cues.take s.cues.index, c.minute ≤ minuteOf s.cues.cueTime) ∧
    (∀ c ∈ s.cues.cues.drop s.cues.index, minuteOf s.cues.cueTime < c.minute) ∧
    s.cues.own.length ≤ ownLimit ∧ s.cues.missed ≤ 255

end Sys2Proof.Machine
end

