-- ==== Sys2Proof/Certificates/Slice0/Obligations.lean ====
section
/-! DEFINITION. The statements for the provers. Each says in its docstring which rules of spec/ it comes from; `Answers c s
P` says that the command completes and that `P` holds of the next state. A frame is said by equality: `t = the old state
with these parts as in t` leaves every other part unchanged. -/

open Sys2Proof Sys2Proof.Machine

/-! ### The step -/

/-- The step runs the command at the front of the queue with the queue's rest (the model's queue, log 1). -/
def Obligations.StepTakesFrontCommand : Prop :=
  ∀ (s : State) (c : Instr) (rest : List Instr), step (s.withPending (c :: rest)) = exec c (s.withPending rest)

/-- No rule gives an event that stops the part (chapters 00 to 11): every command answers a next state in every state
and touches none of the commands that wait; with no command waiting the block idles (the model's choice, log 1). A station
that is Loading or Unconfigured takes no steps (R42, R82, R127, R145, R191). -/
def Obligations.EveryCommandAnswersNext : Prop :=
  (∀ (c : Instr) (s : State), ∃ t, exec c s = .next t ∧ t.pending = s.pending) ∧
    (∀ s : State, s.pending = [] → step s = .next s) ∧
    ∀ (s : State) (reading : Int) (currents : List Nat) (sensors : List EndSensors) (ch : Chan), s.active = false →
      ∀ c ∈ [Instr.ageStep, .clockStep, .speedStep, .lampStep, .rotaryStep, .governorStep reading,
        .detectorSample currents sensors, .indexPulse ch, .heldTimerExpiry ch, .stallTimerExpiry ch, .ownEvent,
        .lineIdleComplete, .slot, .lineStuck, .silenceTimeout], exec c s = .next s

/-- Every invariant stated below holds after power-on. -/
def Obligations.ResetMeetsEveryInvariant : Prop :=
  State.reset.silentUnlessRunning ∧ State.reset.lineBounded ∧ State.reset.peersKept ∧ State.reset.blockedInClash ∧
    State.reset.sceneTimeKept ∧ State.reset.trainsKept ∧ State.reset.quietInTrip ∧ State.reset.rotariesKept ∧
    State.reset.cuesKept

/-! ### Start-up loader -/

/-- POWER_ON (R188, R25, R26, R27, R184): the station is Loading and begins its first transaction; the line counters are
0, the queues, the peer table, the train table, the cue list and the fault sets are empty, every output is off and the
fault lamp is dark. -/
def Obligations.PowerOnStartsLoading : Prop :=
  ∀ s : State, Answers .powerOn s fun t =>
    t.loader =
      { station := .loading, port := .reading, transaction := 1, stopSent := false, wire := [], periods := 0 } ∧
    (∀ n, t.counters.get n = { count := 0, saturated := false }) ∧
    t.line.receiver = .off ∧ t.line.inbound = [] ∧ t.line.urgent.msgs = [] ∧ t.line.routine.msgs = [] ∧
    t.line.cond = .heard ∧ t.line.silence = .off ∧ t.line.drives = [] ∧
    t.peers.entries = [] ∧ t.peers.overflow = false ∧
    t.trains.records = [] ∧ t.trains.claims = [] ∧ t.trains.view = [] ∧
    t.cues.cues = [] ∧ t.cues.index = 0 ∧ t.cues.own = [] ∧ t.cues.missed = 0 ∧
    (∀ k, t.faults.active.get k = false ∧ t.faults.fresh.get k = false) ∧ t.faultLamp = false ∧
    (∀ d ∈ t.lampOutputs, d = 0) ∧ (∀ c, (t.motorOutput c).1 = 0) ∧ (∀ b ∈ t.blocks, t.booster b = .off) ∧
    t.pending = s.pending

/-- MEMORY_TRANSACTION_FAILURE and MEMORY_RETRY_WAIT_END (R189, R191): a failed transaction before the eighth makes the
loader wait, and a new transaction follows the wait; the eighth makes the station Unconfigured with its fault lamp lit. A
missing acknowledge ends with a stop condition, a low data line without one. The stages that took place, from the start
condition on, and the levels they put on the clock and data lines are kept, and the clock periods count them and the wait
of 10 ms (the model's own record of the port, log 22). -/
def Obligations.MemoryPortRetries : Prop :=
  (∀ (cause : PortFailure) (s : State), s.loader.station = .loading → s.loader.port = .reading →
    Answers (.memoryTransactionFailure cause) s fun t =>
      t = { s with loader := t.loader } ∧ t.loader.transaction = s.loader.transaction ∧
      (s.loader.transaction < 8 → t.loader.station = .loading ∧ t.loader.port = .waiting) ∧
      (8 ≤ s.loader.transaction →
        t.loader.station = .unconfigured ∧ t.loader.port = .finished ∧ t.faultLamp = true ∧ t.active = false) ∧
      (t.loader.stopSent = true ↔
        cause = .deviceWriteNoAck ∨ cause = .wordNoAck ∨ cause = .deviceReadNoAck) ∧
      t.loader.periods = s.loader.periods + (match cause with
        | .deviceWriteNoAck => 11
        | .wordNoAck => 20
        | .deviceReadNoAck => 30
        | .startLow => 0
        | .repeatedStartLow => 19) ∧
      t.loader.wire = (match cause with
        | .deviceWriteNoAck => [.start, .send 0b10100110 false, .stop]
        | .wordNoAck => [.start, .send 0b10100110 true, .send 0 false, .stop]
        | .deviceReadNoAck =>
          [.start, .send 0b10100110 true, .send 0 true, .repeatedStart, .send 0b10100111 false, .stop]
        | .startLow => []
        | .repeatedStartLow => [.start, .send 0b10100110 true, .send 0 true])) ∧
  (∀ s : State, s.loader.station = .loading → s.loader.port = .waiting →
    exec .memoryRetryWaitEnd s = .next { s with loader := { s.loader with
      port := .reading, transaction := s.loader.transaction + 1, periods := s.loader.periods + 1000 } }) ∧
  (∀ (l : Loader) (stage : PortStage) (rest : List PortStage), l.wire = stage :: rest →
    l.portLevels = stage.levels ++ ({ l with wire := rest } : Loader).portLevels) ∧
  (∀ l : Loader, l.wire = [] → l.portLevels = []) ∧
  (let low (data : Bool) : PortLevels := { clock := false, data := data }
   let high (data : Bool) : PortLevels := { clock := true, data := data }
   PortStage.start.levels = [high true, high false] ∧
   PortStage.repeatedStart.levels = [low true, high true, high false] ∧
   PortStage.stop.levels = [low false, high false, high true] ∧
   ∀ (d : Byte) (ack : Bool) (stage : PortStage), stage = .send d ack ∨ stage = .read d ack →
     stage.levels.length = 18 ∧
     (∀ i, i < 8 → stage.levels[2 * i]? = some (low (d.getLsbD (7 - i))) ∧
       stage.levels[2 * i + 1]? = some (high (d.getLsbD (7 - i)))) ∧
     stage.levels[16]? = some (low !ack) ∧ stage.levels[17]? = some (high !ack))

/-- CONFIGURATION_READ_COMPLETE (R189 to R193): the 160 bytes are read in order, all but the last acknowledged (the
model's record of the port, log 22). A record whose bytes do not sum to 0 modulo 256, whose format mark is not 166 or
whose station number is not 1 to 63 makes the station Unconfigured and changes nothing else; any other makes it Listening
with the record's settings, every block at the start values written out here (where the spec gives none: logs 3, 5, 7, 8,
27) and the line counters kept (R25). -/
def Obligations.RecordDecidesStart : Prop :=
  ∀ (record : List Byte) (s : State), record.length = 160 → s.loader.station = .loading → s.loader.port = .reading →
    let read : Loader :=
      { s.loader with
        port := .finished, stopSent := true, periods := s.loader.periods + 1470
        wire := [.start, .send 0b10100110 true, .send 0 true, .repeatedStart, .send 0b10100111 true] ++
          (record.take 159).map (fun d => .read d true) ++ (record.drop 159).map (fun d => .read d false) ++ [.stop] }
    ((byteSum record % 256 ≠ 0 ∨ byteAt record 0 ≠ 166 ∨ byteAt record 1 = 0 ∨ 63 < byteAt record 1) →
      Answers (.configurationReadComplete record) s fun t =>
        t = { s with loader := { read with station := .unconfigured } } ∧ t.faultLamp = true) ∧
    (byteSum record % 256 = 0 → byteAt record 0 = 166 → 1 ≤ byteAt record 1 → byteAt record 1 ≤ 63 →
      let st := settingsOf record
      let time := st.startMinute * 60000
      let channel : LampChannel := { requested := 0, present := 0, wanted := 0, duty := 0 }
      let group : LampGroup := { latch := false, override := none }
      let parked : Rotary :=
        { state := .parked, remaining := 0, parkOnly := false, drive := 0, heldTimer := none, stallTimer := none }
      let none' : FaultSet :=
        { lineStuck := false, clash := false, warm := false, trip := false, stall := false, short := false
          intrusion := false, heldAbandoned := false, listFull := false }
      let block (i : Nat) : Block :=
        { number := st.winBase + i, state := .free, detOccupied := false, highRun := 0, lowRun := 0, sample := 0
          shortRun := 0, coolOff := none, risingWas := false, fallingWas := false }
      Answers (.configurationReadComplete record) s fun t =>
        t = { loader := { read with station := .listening }
              settings := st
              line := { receiver := .hunting, inbound := [], urgent := { head := none, rest := [] }
                        routine := { head := none, rest := [] }, tx := s.line.tx, idleDone := false, cond := .heard
                        silence := .running (st.silence * 1000) }
              counters := s.counters
              peers := { entries := [], overflow := false }
              clock := { time := time, owed := 0, adopting := true, rateMismatch := false, jumps := false
                         phase := phaseAt st time, daylight := daylightAt st time, recent := [] }
              blocks := (List.range st.winSize).map block
              trains := { records := [], claims := [], view := [], nextTicket := 0 }
              gov := { level := st.startLevel, effective := (st.desc st.startLevel).budget, temp := .normal, latest := 0
                       working := 0, boosterB := 0, allowance := 0 }
              lamps := { channels := List.replicate 16 channel, a := group, b := group, c := group, d := group
                         tripMark := false }
              rotary := { ch0 := parked, ch1 := parked }
              cues := { cues := [], index := 0, cueTime := time, own := [], missed := 0 }
              faults := { active := none', fresh := none' }
              freeCount := s.freeCount
              pending := s.pending } ∧
        (∀ b ∈ t.blocks, t.booster b = .sensing) ∧ (∀ d ∈ t.lampOutputs, d = 0) ∧ (∀ c, (t.motorOutput c).1 = 0) ∧
        t.faultLamp = false)

/-- The settings of any record are read from its bytes, field by field, in the units of the record table, each clamped as
its chapter says (R199, R1, R23, R35, R40, R41, R44, R45, R55, R60, R62, R67, R82, R109, R113, R125, R126, R144, R172,
R185), and so lie in the ranges of their chapters. -/
def Obligations.SettingsAreClamped : Prop :=
  ∀ record : List Byte,
    let st := settingsOf record
    let b (i : Nat) := byteAt record i
    let within (lo hi n : Nat) := max lo (min hi n)
    (∀ i, b i = (record.getD i 0).toNat) ∧
    st.station = b 1 ∧
    st.lineRate = (if b 2 / 64 = 2 then 62500 else if b 2 / 64 = 3 then 125000 else 31250) ∧
    st.holdTime = within 5 60 (b 2 % 64) ∧
    st.silence = within 1 10 (b 3 / 16) ∧ st.announce = within 2 10 (b 3 % 16) ∧ st.timeMark = within 1 10 (b 4 / 16) ∧
    (let size := b 4 % 16
     st.winSize = (if size ≤ 1 then 1 else if size = 2 then 2 else if size ≤ 4 then 4 else 8)) ∧
    st.winBase = b 5 / st.winSize * st.winSize ∧
    (let listed := [6, 8, 9, 10, 12, 15, 16, 18, 20, 24, 25, 30, 32, 36, 40, 45, 48, 50, 60, 64, 72, 75, 80, 90, 96, 100,
       120]
     st.dayLength ∈ listed ∧ (b 6 ≤ 120 → b 6 ≤ st.dayLength ∧ ∀ d ∈ listed, b 6 ≤ d → st.dayLength ≤ d) ∧
       (120 < b 6 → st.dayLength = 120)) ∧
    (let minutes := ((((((b 7 * 256 + b 8) * 256 + b 9) * 256 + b 10) * 256 + b 11) * 256 + b 12) * 256 + b 13) / 2
     let field (n : Nat) := minutes / 2048 ^ n % 2048
     let dawn := min 1438 (field 3)
     let dusk := min 1439 (field 1)
     st.startMinute = min 1439 (field 4) ∧ st.dawnStart = dawn ∧
       st.dawnLength = min (max 1 (field 2)) (1439 - dawn) ∧ st.duskStart = max dusk (dawn + st.dawnLength) ∧
       st.duskLength = min (max 1 (field 0)) (1440 - st.duskStart)) ∧
    st.nightFloor = min 500 (2 * b 14) ∧
    st.startLevel = (if b 15 / 64 = 1 then .show else if b 15 / 64 = 2 then .economy else .rest) ∧
    st.occThreshold = within 1 50 (b 15 % 64) ∧ st.tripCurrent = within 500 3000 (20 * b 16) ∧
    st.accStep = within 1 100 (b 17) ∧ st.approach = within 1 1000 (4 * b 18) ∧
    st.warnTemp = within 60 100 (b 19) ∧ st.critTemp = within (st.warnTemp + 10) 140 (b 20) ∧
    st.mask =
      { lineStuck := (b 22).testBit 0, clash := (b 22).testBit 1, warm := (b 22).testBit 2, trip := (b 22).testBit 3
        stall := (b 22).testBit 4, short := (b 22).testBit 5, intrusion := (b 22).testBit 6
        heldAbandoned := (b 22).testBit 7, listFull := (b 21).testBit 0 } ∧
    (let level (i : Nat) : LevelDesc :=
       { budget := min 10000 (40 * b i), settle := within 10 1000 (10 * (b (i + 1) % 128))
         cap := min 1000 (4 * b (i + 2)), rotaries := (b (i + 1)).testBit 7 }
     st.desc .show = level 24 ∧ st.desc .economy = level 27 ∧ st.desc .rest = level 30) ∧
    (∀ i, i < 8 →
      let neighbour (n : Nat) : Option Nat := if n = st.winBase + i then none else some n
      st.slots[i]? = some
        { rising := neighbour (b (33 + 4 * i)), falling := neighbour (b (34 + 4 * i))
          risingCode := b (35 + 4 * i), fallingCode := b (36 + 4 * i), extended := (b 65).testBit i
          risingPresent := (b 66).testBit i, fallingPresent := (b 67).testBit i }) ∧
    (∀ c, c < 16 →
      let code := b (84 + c / 4) / 4 ^ (3 - c % 4) % 4
      st.lamps[c]? = some
        { configured := b (68 + c) != 0, fullScale := min 500 (2 * b (68 + c))
          group := if code = 0 then .a else if code = 1 then .b else if code = 2 then .c else .d }) ∧
    (let mood (code i : Nat) : GroupCfg :=
       { mode := if code = 1 then .daylight else if code = 2 then .night else if code = 3 then .duskSwitch
           else if code = 4 then .fixed else .off
         gain := min 1000 (4 * b i), onLevel := min 1000 (4 * b (i + 1)), onThreshold := min 1000 (4 * b (i + 2))
         offThreshold := within (min 1000 (4 * b (i + 2)) + 1) 1001 (4 * b (i + 3)), fade := within 1 1000 (b (i + 4)) }
     st.group .a = mood (b 88 / 16) 90 ∧ st.group .b = mood (b 88 % 16) 95 ∧ st.group .c = mood (b 89 / 16) 100 ∧
       st.group .d = mood (b 89 % 16) 105) ∧
    (let channel (i : Nat) : RotCfg :=
       { configured := (b i).testBit 7, anticlockwise := (b i).testBit 6, stallTimeout := within 1 10 (b i % 16)
         runLevel := within 1 1000 (4 * b (i + 1))
         creepLevel := within 1 (within 1 1000 (4 * b (i + 1))) (2 * b (i + 2))
         ramp := within 1 1000 (4 * b (i + 3)), runCurrent := min 5000 (50 * b (i + 4)) }
     st.rot .ch0 = channel 110 ∧ st.rot .ch1 = channel 115) ∧
    (∀ e, e < 8 →
      let i := 120 + 5 * e
      let action := Action.ofField (b (i + 2) * 65536 + b (i + 3) * 256 + b (i + 4))
      st.listen[e]? = some
        { enabled := (b i).testBit 7 && b (i + 1) != 0 && action != none, relay := (b i).testBit 6, origin := b i % 64
          code := b (i + 1), action := action }) ∧
    (st.lineRate = 31250 ∨ st.lineRate = 62500 ∨ st.lineRate = 125000) ∧
    (st.winSize = 1 ∨ st.winSize = 2 ∨ st.winSize = 4 ∨ st.winSize = 8) ∧ st.winBase % st.winSize = 0 ∧
    st.winBase + st.winSize ≤ 256 ∧ st.slots.length = 8 ∧
    1 ≤ st.silence ∧ st.silence ≤ 10 ∧ 2 ≤ st.announce ∧ st.announce ≤ 10 ∧ 1 ≤ st.timeMark ∧ st.timeMark ≤ 10 ∧
    st.dayLength ∈ dayLengths ∧ st.startMinute ≤ 1439 ∧
    1 ≤ st.dawnLength ∧ 1 ≤ st.duskLength ∧ st.dawnStart + st.dawnLength ≤ st.duskStart ∧
    st.duskStart + st.duskLength ≤ 1440 ∧ st.nightFloor ≤ 500 ∧
    1 ≤ st.occThreshold ∧ st.occThreshold ≤ 50 ∧ 500 ≤ st.tripCurrent ∧ st.tripCurrent ≤ 3000 ∧
    5 ≤ st.holdTime ∧ st.holdTime ≤ 60 ∧ 1 ≤ st.accStep ∧ st.accStep ≤ 100 ∧ 1 ≤ st.approach ∧ st.approach ≤ 1000 ∧
    60 ≤ st.warnTemp ∧ st.warnTemp ≤ 100 ∧ st.warnTemp + 10 ≤ st.critTemp ∧ st.critTemp ≤ 140 ∧
    (∀ p : PowerLevel,
      (st.desc p).budget ≤ 10000 ∧ 10 ≤ (st.desc p).settle ∧ (st.desc p).settle ≤ 1000 ∧ (st.desc p).cap ≤ 1000) ∧
    (st.lamps.length = 16 ∧ ∀ c ∈ st.lamps, c.fullScale ≤ 500 ∧ (c.configured = true ↔ c.fullScale ≠ 0)) ∧
    (∀ g : Group,
      (st.group g).gain ≤ 1000 ∧ (st.group g).onLevel ≤ 1000 ∧ (st.group g).onThreshold ≤ 1000 ∧
      (st.group g).onThreshold < (st.group g).offThreshold ∧ (st.group g).offThreshold ≤ 1001 ∧
      1 ≤ (st.group g).fade ∧ (st.group g).fade ≤ 1000) ∧
    (∀ c : Chan,
      1 ≤ (st.rot c).creepLevel ∧ (st.rot c).creepLevel ≤ (st.rot c).runLevel ∧ (st.rot c).runLevel ≤ 1000 ∧
      1 ≤ (st.rot c).ramp ∧ (st.rot c).ramp ≤ 1000 ∧ (st.rot c).runCurrent ≤ 5000 ∧
      1 ≤ (st.rot c).stallTimeout ∧ (st.rot c).stallTimeout ≤ 10) ∧
    st.listen.length = 8 ∧
    ∀ l ∈ st.listen, l.origin ≤ 63 ∧ l.code ≤ 255 ∧ (l.enabled = true → l.code ≠ 0 ∧ l.action ≠ none)

/-- LISTENING_WINDOW_END (R194, R40): the station is Running, adoption is over, and its first Announce, naming the own
window, lamp and rotary counts, Running and the day length code, is the head of the routine queue, which was empty while
the station listened. -/
def Obligations.ListeningEndsInRunning : Prop :=
  ∀ s : State, s.loader.station = .listening → s.line.routine = .empty →
    Answers .listeningWindowEnd s fun t =>
      t = { s with loader := { s.loader with station := .running }, clock := { s.clock with adopting := false }
                   line := { s.line with routine := t.line.routine } } ∧
      t.line.routine.rest = [] ∧
      t.line.routine.head = some
        { msg := { dest := 0, kind := .announce, ticket := none
                   body := [toByte s.settings.winBase, toByte s.settings.winSize, toByte s.settings.lampCount,
                     toByte s.settings.rotaryCount, 2, toByte (dayCode s.settings.dayLength)] }
          attempt := 1, slots := 2, inHand := false, counting := false }

/-- RESTART (R195, R196, R25, R26): the line counters with their marks are all that survives; an attempt in progress ends
with a break, a break runs on; the station is Loading. The rest stands at its power-on values, which PowerOnStartsLoading
gives; that the settings stand at the initial ones, so that a motor output names no direction, is the model's choice (logs
4 and 27). -/
def Obligations.RestartKeepsOnlyCounters : Prop :=
  ∀ (s : State) (m : InMsg) (rest : List InMsg), s.offersHead m rest → m.kind = .restart →
    Answers .restart s fun t =>
      t = { State.reset with
            line := { State.reset.line with tx := t.line.tx }, counters := s.counters, freeCount := s.freeCount
            pending := s.pending } ∧
      t.counters = s.counters ∧ t.pending = s.pending ∧
      t.loader.station = .loading ∧ t.loader.port = .reading ∧ t.loader.transaction = 1 ∧
      t.line.receiver = .off ∧ t.line.inbound = [] ∧ t.line.urgent.msgs = [] ∧ t.line.routine.msgs = [] ∧
      t.line.cond = .heard ∧ t.line.silence = .off ∧
      (s.line.tx = .quiet → t.line.tx = .quiet) ∧ (s.line.tx ≠ .quiet → t.line.tx = .breaking) ∧
      t.peers.entries = [] ∧ t.peers.overflow = false ∧
      t.trains.records = [] ∧ t.trains.claims = [] ∧ t.trains.view = [] ∧
      (∀ b ∈ t.blocks, b.state = .free ∧ b.coolOff = none ∧ t.booster b = .off) ∧
      t.gov.temp = .normal ∧ t.gov.allowance = 0 ∧
      (∀ d ∈ t.lampOutputs, d = 0) ∧ t.lamps.tripMark = false ∧
      (∀ g, t.lamps.group g = { latch := false, override := none }) ∧
      (∀ c, t.motorOutput c = (0, false) ∧ t.rotary.get c =
        { state := .parked, remaining := 0, parkOnly := false, drive := 0, heldTimer := none, stallTimer := none }) ∧
      t.clock.owed = 0 ∧ t.clock.rateMismatch = false ∧ t.clock.jumps = false ∧
      t.cues.cues = [] ∧ t.cues.index = 0 ∧ t.cues.own = [] ∧ t.cues.missed = 0 ∧
      (∀ k, t.faults.active.get k = false ∧ t.faults.fresh.get k = false)

/-- A station that is not Running has nothing to send (R12, R26). -/
def Obligations.SilentUnlessRunningKept : Prop := KeptByStep State.silentUnlessRunning

/-! ### Receiver -/

/-- IDLE_TIME and FRAMING_ERROR (R3, R6): a hunting receiver is Idle after one idle time and reads no characters before
it; a framing error makes the receiver Hunting and counts Framing only if it discards an open message. While the own transmitter is at work
(R8), or the receiver is off, nothing is received. -/
def Obligations.HuntingAndFraming : Prop :=
  (∀ s : State, s.line.tx ≠ .quiet ∨ s.line.receiver = .off →
    exec .idleTime s = .next s ∧ exec .framingError s = .next s ∧
    ∀ d moves, exec (.leadCharacter d moves) s = .next s ∧ exec (.dataCharacter d) s = .next s ∧
      exec (.messageComplete d) s = .next s) ∧
  ∀ s : State, s.line.tx = .quiet →
    (s.line.receiver = .hunting →
      exec .idleTime s = .next { s with line := { s.line with receiver := .idle } } ∧
      (∀ d moves, moves ≤ 9 →
        exec (.leadCharacter d moves) s = .next { s with line := { s.line with idleDone := false } }) ∧
      (∀ d, exec (.dataCharacter d) s = .next { s with line := { s.line with idleDone := false } })) ∧
    (s.line.receiver ≠ .off → s.line.receiver ≠ .hunting → exec .idleTime s = .next s) ∧
    (s.line.receiver ≠ .off →
      exec .framingError s = .next
        { s with line := { s.line with receiver := .hunting, idleDone := false }
                 counters := if s.line.receiver.isOpen then s.counters.bump .framing else s.counters })

/-- LEAD_CHARACTER (R4, R9): an open message is cut and counted; a destination above 63 counts Malformed and is skipped;
one of 0 or the own number opens a message with the scene time of its start bit (read back over the movements since,
log 7); any other is skipped. -/
def Obligations.LeadCharacterByDestination : Prop :=
  ∀ (s : State) (d : Byte) (moves : Nat), s.line.tx = .quiet → s.line.receiver ≠ .off → s.line.receiver ≠ .hunting →
    moves ≤ 9 →
    Answers (.leadCharacter d moves) s fun t =>
      t = { s with line := { s.line with receiver := t.line.receiver, idleDone := false }, counters := t.counters } ∧
      (let cut := if s.line.receiver.isOpen then s.counters.bump .cut else s.counters
       t.counters = if 63 < d.toNat then cut.bump .malformed else cut) ∧
      (63 < d.toNat → t.line.receiver = .skipping) ∧
      (d.toNat ≤ 63 → d.toNat = 0 ∨ d.toNat = s.settings.station →
        t.line.receiver = .opened [d] (s.clock.timeBefore moves) ∧ s.clock.timeBefore 0 = s.clock.time) ∧
      (d.toNat ≤ 63 → d.toNat ≠ 0 → d.toNat ≠ s.settings.station → t.line.receiver = .skipping)

/-- DATA_CHARACTER (R5): ignored in Idle and Skipping. In Open it is added; as second character a source of 0, above 63 or
the own one counts Malformed and is skipped, as fourth a length above 24 likewise. A character that completes the message
is what MESSAGE_COMPLETE gives (log 11). -/
def Obligations.DataCharacterStored : Prop :=
  ∀ (s : State) (d : Byte), s.line.tx = .quiet →
    (s.line.receiver = .idle ∨ s.line.receiver = .skipping →
      exec (.dataCharacter d) s = .next { s with line := { s.line with idleDone := false } }) ∧
    ∀ (chars : List Byte) (stamp : Nat), s.line.receiver = .opened chars stamp →
      let next (r : Receiver) : State := { s with line := { s.line with receiver := r, idleDone := false } }
      let bad (r : Receiver) : State := { next r with counters := s.counters.bump .malformed }
      (chars.length = 1 → (d.toNat = 0 ∨ 63 < d.toNat ∨ d.toNat = s.settings.station) →
        exec (.dataCharacter d) s = .next (bad .skipping)) ∧
      (chars.length = 1 → ¬(d.toNat = 0 ∨ 63 < d.toNat ∨ d.toNat = s.settings.station) →
        exec (.dataCharacter d) s = .next (next (.opened (chars ++ [d]) stamp))) ∧
      (chars.length = 3 → 24 < d.toNat → exec (.dataCharacter d) s = .next (bad .skipping)) ∧
      (chars.length = 3 → d.toNat ≤ 24 → exec (.dataCharacter d) s = .next (next (.opened (chars ++ [d]) stamp))) ∧
      (chars.length = 2 → exec (.dataCharacter d) s = .next (next (.opened (chars ++ [d]) stamp))) ∧
      (4 ≤ chars.length → chars.length + 1 ≠ 5 + byteAt chars 3 →
        exec (.dataCharacter d) s = .next (next (.opened (chars ++ [d]) stamp))) ∧
      (4 ≤ chars.length → chars.length + 1 = 5 + byteAt chars 3 →
        exec (.dataCharacter d) s = exec (.messageComplete d) s)

/-- MESSAGE_COMPLETE (R7, R10, R23, R32): a sum that is not 0 counts CheckErr; a valid message restarts the silence time,
ends an isolation and makes the age of its source's entry 0; then an unknown kind or a wrong length counts Malformed, and
anything else is added to the inbound queue with its stamp, or dropped: routine from 6 messages on (Shed), urgent from 8
on (Overrun). -/
def Obligations.CompleteMessageAdmitted : Prop :=
  ∀ (s : State) (chars : List Byte) (stamp : Nat) (d : Byte), s.line.tx = .quiet →
    s.line.receiver = .opened chars stamp → 4 ≤ chars.length → chars.length + 1 = 5 + byteAt chars 3 →
    let all := chars ++ [d]
    (byteSum all % 256 ≠ 0 →
      exec (.messageComplete d) s = .next
        { s with line := { s.line with receiver := .idle, idleDone := false }
                 counters := s.counters.bump .checkErr }) ∧
    (byteSum all % 256 = 0 →
      Answers (.messageComplete d) s fun t =>
        t = { s with line := t.line, counters := t.counters, peers := t.peers } ∧
        t.line = { s.line with receiver := .idle, idleDone := false, inbound := t.line.inbound
                               silence := .running (s.settings.silence * 1000)
                               cond := if s.line.cond = .isolated then .heard else s.line.cond } ∧
        t.peers.overflow = s.peers.overflow ∧
        t.peers.entries = s.peers.entries.map
          (fun p => if p.station = byteAt chars 1 then { p with age := 0 } else p) ∧
        (Kind.ofCode (byteAt chars 2) = none →
          t.line.inbound = s.line.inbound ∧ t.counters = s.counters.bump .malformed) ∧
        ∀ k, Kind.ofCode (byteAt chars 2) = some k →
          (k.lengthOk (byteAt chars 3) = false →
            t.line.inbound = s.line.inbound ∧ t.counters = s.counters.bump .malformed) ∧
          (k.lengthOk (byteAt chars 3) = true →
            (s.line.inbound.length < (if k.urgent then 8 else 6) →
              t.line.inbound = s.line.inbound ++
                [{ dest := byteAt chars 0, src := byteAt chars 1, kind := k, body := chars.drop 4, stamp := stamp }] ∧
              t.counters = s.counters) ∧
            ((if k.urgent then 8 else 6) ≤ s.line.inbound.length →
              t.line.inbound = s.line.inbound ∧
              t.counters = s.counters.bump (if k.urgent then .overrun else .shed))))

/-- Sending and receiving agree (R1, R2, R4, R5, R7, R9, R10): the characters one station sends for a message of an
allowed body length, addressed to all stations or to this one, arrive at an aligned receiver as that message, whole, with
the scene time of the lead character's start bit; nothing is counted, and the sender's entry has age 0. -/
def Obligations.SentMessageIsReceived : Prop :=
  ∀ (s : State) (src : Nat) (m : OutMsg), s.line.tx = .quiet →
    (s.line.receiver = .idle ∨ s.line.receiver = .skipping) → s.otherStation src →
    (m.dest = 0 ∨ m.dest = s.settings.station) → m.dest ≤ 63 → m.kind.lengthOk m.body.length = true →
    s.line.inbound.length < 6 →
    ∃ t, receiveAll (messageChars src m) s = .next t ∧
      t.line.inbound = s.line.inbound ++
        [{ dest := m.dest, src := src, kind := m.kind, body := m.body, stamp := s.clock.time }] ∧
      t.line.receiver = .idle ∧ t.counters = s.counters ∧
      t.line.silence = .running (s.settings.silence * 1000) ∧
      (∀ p ∈ t.peers.entries, p.station = src → p.age = 0) ∧
      t = { s with line := t.line, peers := t.peers }

/-! ### Offers and notices -/

/-- Offers (R12, R13, R14): discarded while the station is not Running; otherwise an urgent message joins its queue while
that holds fewer than 4, a routine one while it holds fewer than 6, and is dropped and counted in OutDrop by a full
queue. A Time mark or Announce takes the place of one that waits, and is discarded beside one in hand. A message that
comes to the head starts its attempts afresh. -/
def Obligations.OffersJoinTheirQueue : Prop :=
  ∀ (s : State) (m : OutMsg),
    (s.isRunning = false → offer m s = s) ∧
    (s.isRunning = true → (s.line.urgent.head = none → s.line.urgent.rest = []) →
      (s.line.routine.head = none → s.line.routine.rest = []) →
      let t := offer m s
      t = { s with line := { s.line with urgent := t.line.urgent, routine := t.line.routine }, counters := t.counters } ∧
      (m.kind.urgent = true →
        t.line.routine = s.line.routine ∧
        (s.line.urgent.msgs.length < 4 → t.line.urgent.msgs = s.line.urgent.msgs ++ [m] ∧ t.counters = s.counters) ∧
        (4 ≤ s.line.urgent.msgs.length →
          t.line.urgent = s.line.urgent ∧ t.counters = s.counters.bump .outDrop) ∧
        (s.line.urgent.head = none →
          t.line.urgent.head = some { msg := m, attempt := 1, slots := 0, inHand := false, counting := false }) ∧
        (s.line.urgent.head ≠ none → t.line.urgent.head = s.line.urgent.head)) ∧
      (m.kind.urgent = false →
        t.line.urgent = s.line.urgent ∧
        (s.line.routine.head = none →
          t.line.routine.head = some { msg := m, attempt := 1, slots := 2, inHand := false, counting := false }) ∧
        (m.kind.single = true → s.line.routine.waiting m.kind = true → s.line.routine.inHand m.kind = false →
          t.line.routine.msgs = s.line.routine.msgs.map (fun x => if x.kind = m.kind then m else x) ∧
          t.line.routine.head.map (fun h => (h.attempt, h.slots, h.inHand, h.counting)) =
            s.line.routine.head.map (fun h => (h.attempt, h.slots, h.inHand, h.counting)) ∧
          t.counters = s.counters) ∧
        (m.kind.single = true → s.line.routine.waiting m.kind = false → s.line.routine.inHand m.kind = true → t = s) ∧
        ((m.kind.single = true → s.line.routine.waiting m.kind = false ∧ s.line.routine.inHand m.kind = false) →
          (s.line.routine.head ≠ none → t.line.routine.head = s.line.routine.head) ∧
          (s.line.routine.msgs.length < 6 →
            t.line.routine.msgs = s.line.routine.msgs ++ [m] ∧ t.counters = s.counters) ∧
          (6 ≤ s.line.routine.msgs.length →
            t.line.routine = s.line.routine ∧ t.counters = s.counters.bump .outDrop))))

/-- Raises and ends of a fault class (R183, R185): a raise sets the class's active and new flags and, unless the notice
mask holds the class, offers a Fault notice to station 0 with the class and the detail; an end clears the active flag
alone. -/
def Obligations.RaisesFlagAndNotify : Prop :=
  ∀ (k : FaultClass) (detail : Nat) (s : State),
    (let u : State := { s with faults := { active := s.faults.active.set k true, fresh := s.faults.fresh.set k true } }
     (s.settings.mask.get k = true → raiseFault k detail s = u) ∧
     (s.settings.mask.get k = false →
       raiseFault k detail s =
         offer (outMsg 0 .faultNotice [toByte k.code, toByte (detail / 256), toByte detail]) u)) ∧
    endFault k s = { s with faults := { s.faults with active := s.faults.active.set k false } } ∧
    ∀ (f : FaultSet) (j : FaultClass) (v : Bool), (f.set k v).get j = if j = k then v else f.get j

/-! ### Line access -/

/-- LINE_IDLE_COMPLETE and SLOT (R15): when the idle time is complete, slots are counted for the heads that are there;
each slot lowers the remaining slots of the heads that were there at its start; no slot is counted on a Stuck line or
before the idle time is complete. -/
def Obligations.IdleTimeAndSlotsCount : Prop :=
  ∀ s : State, s.active = true → s.line.tx = .quiet →
    (let counted (q : OutQueue) : OutQueue := { q with head := q.head.map fun h => { h with counting := true } }
     s.line.cond ≠ .stuck →
       exec .lineIdleComplete s = .next { s with line := { s.line with
         idleDone := true, urgent := counted s.line.urgent, routine := counted s.line.routine } }) ∧
    (let after (q : OutQueue) : OutQueue := { q with head := q.head.map fun h =>
       { h with slots := if h.counting then h.slots - 1 else h.slots, counting := true } }
     s.line.cond ≠ .stuck → s.line.idleDone = true →
       exec .slot s = .next { s with line := { s.line with
         urgent := after s.line.urgent, routine := after s.line.routine } }) ∧
    (s.line.cond = .stuck ∨ s.line.idleDone = false → exec .slot s = .next s)

/-- LINE_STUCK, LINE_IDLE_COMPLETE on a Stuck line, SILENCE_TIMEOUT (R21, R22, R23, R34, R36): a Stuck line makes the
receiver Hunting and raises LineStuck; it is left after one idle time, for Isolated if the silence time has run out and
for Heard otherwise; the silence time makes a Heard line Isolated. A line that becomes Isolated leaves every peer entry
Stale and unmarked, and the blocks leave the blocked set. That LINE_STUCK cuts an open message and starts the idle time
anew is log 23; that a silence time which does not run does not run out is log 2; that what is offered within the end of
Stuck counts from the first slot is log 35. -/
def Obligations.StuckAndSilence : Prop :=
  ∀ s : State, s.active = true →
    (s.line.cond ≠ .stuck → s.line.tx.isSending = false →
      exec .lineStuck s = .next (raiseFault .lineStuck 0
        { s with line := { s.line with receiver := .hunting, idleDone := false, cond := .stuck }
                 counters := if s.line.receiver.isOpen then s.counters.bump .framing else s.counters })) ∧
    (s.line.cond = .stuck → s.line.tx = .quiet →
      Answers .lineIdleComplete s fun t =>
        t.faults.active.lineStuck = false ∧
        (∀ h ∈ t.line.urgent.head, h.counting = true) ∧ (∀ h ∈ t.line.routine.head, h.counting = true) ∧
        (let counted (q : OutQueue) : OutQueue := { q with head := q.head.map fun h => { h with counting := true } }
         s.line.silence ≠ .ranOut →
          t = { s with faults := { s.faults with active := s.faults.active.set .lineStuck false }
                       line := { s.line with cond := .heard, idleDone := true
                                             urgent := counted s.line.urgent, routine := counted s.line.routine } }) ∧
        (s.line.silence = .ranOut →
          State.changesClash { s with line := { s.line with cond := .isolated, idleDone := true } } t ∧
          (let u := State.takesBlockedSet { s with peers := t.peers, line := { s.line with cond := .isolated } }
           t.blocks = u.blocks ∧ t.trains = u.trains) ∧
          t.peers.entries = s.peers.entries.map fun p => { p with fresh := false, clash := false })) ∧
    (∀ ms, s.line.silence = .running ms →
      (s.line.cond ≠ .heard →
        exec .silenceTimeout s = .next { s with line := { s.line with silence := .ranOut } }) ∧
      (s.line.cond = .heard →
        Answers .silenceTimeout s fun t =>
          State.changesClash { s with line := { s.line with cond := .isolated, silence := .ranOut } } t ∧
          s.clashFollows t ∧
          State.settlesBlocks
            { s with peers := t.peers, line := { s.line with cond := .isolated, silence := .ranOut } } true id t ∧
          t.peers.entries = s.peers.entries.map fun p => { p with fresh := false, clash := false })) ∧
    (s.line.silence = .off ∨ s.line.silence = .ranOut → exec .silenceTimeout s = .next s)

/-- ATTEMPT_START (R16, R8, R47): the urgent head begins if it has no slots left, otherwise the routine head if it has
none; the head is in hand, a Time mark is written with the scene time, a message still open is cut, and the idle time has
to be complete again. Nothing begins unless the station is Running, its line not Stuck and its idle time complete. -/
def Obligations.AttemptStartsUrgentFirst : Prop :=
  ∀ s : State,
    (s.isRunning = false ∨ s.line.cond = .stuck ∨ s.line.idleDone = false → exec .attemptStart s = .next s) ∧
    (s.isRunning = true → s.line.tx = .quiet → s.line.cond ≠ .stuck → s.line.idleDone = true →
      let receiver := if s.line.receiver.isOpen then .idle else s.line.receiver
      let counters := if s.line.receiver.isOpen then s.counters.bump .cut else s.counters
      let begun (h : Head) : Head := { h with msg := h.msg.written s.clock.time, inHand := true }
      let chars (h : Head) := messageChars s.settings.station (h.msg.written s.clock.time)
      (∀ h, s.line.urgent.head = some h → h.slots = 0 →
        exec .attemptStart s = .next { s with counters := counters, line := { s.line with
          receiver := receiver, idleDone := false, tx := .sending true (chars h)
          urgent := { s.line.urgent with head := some (begun h) } } }) ∧
      (∀ h, s.line.routine.head = some h → h.slots = 0 → (∀ u ∈ s.line.urgent.head, u.slots ≠ 0) →
        exec .attemptStart s = .next { s with counters := counters, line := { s.line with
          receiver := receiver, idleDone := false, tx := .sending false (chars h)
          routine := { s.line.routine with head := some (begun h) } } }) ∧
      ((∀ u ∈ s.line.urgent.head, u.slots ≠ 0) → (∀ u ∈ s.line.routine.head, u.slots ≠ 0) →
        exec .attemptStart s = .next s))

/-- COLLISION on attempts 1 to 7 (R18): the attempt count rises by 1, Collisions counts 1, the message stays the head and
waits (station number mod m_k) + 1 slots, 2 more if it is routine; the transmitter drives a break. Any two different
station numbers draw different backoffs after at least one of the attempts 1 to 7. -/
def Obligations.CollisionDrawsBackoff : Prop :=
  (∀ (s : State) (urgent : Bool) (chars : List Byte) (h : Head), s.line.tx = .sending urgent chars →
    (s.line.queue urgent).head = some h → 1 ≤ h.attempt → h.attempt ≤ 7 →
    exec .collision s = .next { s with
      counters := s.counters.bump .collisions
      line := { s.line.setQueue urgent { s.line.queue urgent with head := some { h with
                  attempt := h.attempt + 1
                  slots := s.settings.station % [7, 11, 13, 16, 17, 19, 23].getD (h.attempt - 1) 1 + 1 +
                    (if urgent then 0 else 2) } } with
                tx := .breaking } }) ∧
  ∀ a b : Nat, 1 ≤ a → a ≤ 63 → 1 ≤ b → b ≤ 63 → a ≠ b → ∃ k, 1 ≤ k ∧ k ≤ 7 ∧
    a % [7, 11, 13, 16, 17, 19, 23].getD (k - 1) 1 ≠ b % [7, 11, 13, 16, 17, 19, 23].getD (k - 1) 1

/-- COLLISION on attempt 8, MESSAGE_SENT, BREAK_END (R8, R19, R20, R26, R96): the message leaves its queue, the next one
becomes its head with its numbers afresh, and the claim it was sent for, if any, is told (by the number of its sending,
log 8); a give-up is counted. After a
break the receiver hunts, unless the station has restarted meanwhile. -/
def Obligations.HeadLeavesQueue : Prop :=
  (∀ (s : State) (urgent : Bool) (chars : List Byte) (h : Head), s.line.tx = .sending urgent chars →
    (s.line.queue urgent).head = some h →
    let q := s.line.queue urgent
    let next : OutQueue :=
      { head := q.rest.head?.map fun m =>
          { msg := m, attempt := 1, slots := if m.kind.urgent then 0 else 2, inHand := false, counting := false }
        rest := q.rest.tail }
    let told (f : Nat → PClaim → PClaim) : TrainTable :=
      { s.trains with claims := s.trains.claims.map fun c => (h.msg.ticket.map fun n => f n c).getD c }
    exec .messageSent s = .next { s with
      trains := told PClaim.afterSending
      line := { s.line.setQueue urgent next with tx := .quiet, receiver := .idle } } ∧
    (8 ≤ h.attempt →
      exec .collision s = .next { s with
        trains := told PClaim.afterLoss
        counters := (s.counters.bump .collisions).bump .giveUps
        line := { s.line.setQueue urgent next with tx := .breaking } })) ∧
  ∀ s : State, s.line.tx = .breaking →
    exec .breakEnd s = .next { s with line := { s.line with
      tx := .quiet, receiver := if s.active then .hunting else .off } }

/-- The queues and line counters stay within their bounds (R10, R12, R13, R14, R19, R24). -/
def Obligations.LineBoundsKept : Prop := KeptByStep State.lineBounded

/-- ANNOUNCE_INTERVAL and TIME_MARK_INTERVAL (R40, R45): a Running station offers its Announce with its window, lamp and
rotary counts, Running and its day length code, and its Time mark with its day length code (its time field 0 until an attempt, log 18), this one not on a Stuck line;
a station that is not Running offers neither. -/
def Obligations.ScheduledOffers : Prop :=
  ∀ s : State,
    (s.isRunning = true →
      exec .announceInterval s = .next (offer (outMsg 0 .announce
        [toByte s.settings.winBase, toByte s.settings.winSize, toByte s.settings.lampCount,
          toByte s.settings.rotaryCount, 2, toByte (dayCode s.settings.dayLength)]) s) ∧
      (s.line.cond ≠ .stuck →
        exec .timeMarkInterval s =
          .next (offer (outMsg 0 .timeMark [0, 0, 0, 0, toByte (dayCode s.settings.dayLength)]) s))) ∧
    (s.isRunning = true → s.line.cond = .stuck → exec .timeMarkInterval s = .next s) ∧
    (s.isRunning = false → exec .announceInterval s = .next s ∧ exec .timeMarkInterval s = .next s)

/-! ### Peer table -/

/-- AGE_STEP (R33, R36, R37): every age rises by 1 up to 255, a Fresh entry whose age reaches three announce intervals
becomes Stale, and the marks are settled: an entry carries the Clash mark when it is Fresh and a block lies in its window
and the own one; the blocked set is handed to the track unit (R76, R77), and the notice of a Clash that starts stands in
any place among its offers (R12, R185, log 6). -/
def Obligations.AgeStepAges : Prop :=
  (∀ s : State, s.active = true →
    Answers .ageStep s fun t =>
      s.changesClash t ∧ s.clashFollows t ∧
      State.settlesBlocks { s with peers := t.peers } (s.peers.entries.any fun p => p.clash) id t ∧
      t.peers.entries = s.peers.entries.map fun p =>
        let age := min 255 (p.age + 1)
        Peer.settled s.settings { p with age := age, fresh := p.fresh && decide (age < 3 * s.settings.announce) }) ∧
  ∀ (st : Settings) (p : Peer), (p.settled st).clash = true ↔ p.fresh = true ∧
    ∃ b, p.base ≤ b ∧ b < p.base + p.size ∧ st.winBase ≤ b ∧ b < st.winBase + st.winSize

/-- ANNOUNCE (R28 to R31, R36, R37, R39, R101): a malformed one is counted; any other makes, updates or replaces the entry
of its source, Fresh with age 0, or sets PeerOverflow when 16 Fresh entries of others are held; another day length code
sets RateMismatch; a Running source ends the owner waits that name it, and no other part of a claim. The entry becomes Fresh on an Isolated line too (log
34). The blocked set is handed to the track unit, a Clash notice in any place among its offers (log 6). -/
def Obligations.AnnounceTaken : Prop :=
  ∀ (s : State) (m : InMsg) (rest : List InMsg), s.offersHead m rest → m.kind = .announce →
    (s.peers.entries.map fun p => p.station).Pairwise (· < ·) →
    let size := byteAt m.body 1
    let ok := (size = 0 ∨ size = 1 ∨ size = 2 ∨ size = 4 ∨ size = 8) ∧ byteAt m.body 2 ≤ 16 ∧ byteAt m.body 3 ≤ 2 ∧
      (byteAt m.body 4 = 1 ∨ byteAt m.body 4 = 2) ∧ 1 ≤ byteAt m.body 5 ∧ byteAt m.body 5 ≤ 27
    let base := byteAt m.body 0
    let new := Peer.settled s.settings
      { station := m.src, base := if size = 0 then base else base - base % size, size := size, age := 0, fresh := true
        clash := false }
    let kept (t : State) (p : Peer) (q : Peer → Prop) := p ∈ t.peers.entries ↔
      p = new ∨ ∃ o ∈ s.peers.entries, q o ∧ p = o.settled s.settings
    let told (c : PClaim) : PClaim := match c.state with
      | .queued retry (some w) =>
        if byteAt m.body 4 = 2 ∧ w = m.src then { c with state := .queued retry none } else c
      | .queued _ none | .sent _ _ | .granted => c
    (¬ok → exec .announce s = .next (s.tookMalformed rest)) ∧
    (ok → Answers .announce s fun t =>
      State.changesClash
        { s.took rest with
          peers := { s.peers with overflow := t.peers.overflow }
          clock := if byteAt m.body 5 = dayCode s.settings.dayLength then s.clock
            else { s.clock with rateMismatch := true } } t ∧
      s.clashFollows t ∧
      ((∃ p ∈ s.peers.entries, p.station = m.src ∨ p.fresh = false) ∨ s.peers.entries.length < 16 →
        State.settlesBlocks { s.took rest with peers := t.peers } (s.peers.entries.any fun p => p.clash) told t) ∧
      ((∀ p ∈ s.peers.entries, p.station ≠ m.src ∧ p.fresh = true) → 16 ≤ s.peers.entries.length →
        t.blocks = s.blocks ∧ t.line = (s.took rest).line ∧ t.counters = s.counters ∧
          t.trains = { s.trains with claims := s.trains.claims.map told }) ∧
      ((∃ p ∈ s.peers.entries, p.station = m.src) → t.peers.overflow = s.peers.overflow ∧
        t.peers.entries.length = s.peers.entries.length ∧ ∀ p, kept t p fun o => o.station ≠ m.src) ∧
      ((∀ p ∈ s.peers.entries, p.station ≠ m.src) → s.peers.entries.length < 16 →
        t.peers.overflow = s.peers.overflow ∧ t.peers.entries.length = s.peers.entries.length + 1 ∧
        ∀ p, kept t p fun _ => True) ∧
      ((∀ p ∈ s.peers.entries, p.station ≠ m.src) → 16 ≤ s.peers.entries.length →
        ((∀ p ∈ s.peers.entries, p.fresh = true) → t.peers.overflow = true ∧ t.peers.entries = s.peers.entries) ∧
        (∀ o ∈ s.peers.entries, o.fresh = false →
          (∀ q ∈ s.peers.entries, q.fresh = false → q.age < o.age ∨ (q.age = o.age ∧ o.station ≤ q.station)) →
          t.peers.overflow = s.peers.overflow ∧ ∀ p, kept t p fun q => q.station ≠ o.station)) ∧
      (byteAt m.body 4 = 2 → ∀ c ∈ t.trains.claims, ∀ r, c.state ≠ .queued r (some m.src)))

/-- The peer table stays in form (R5, R27, R31, R36); that its entries stand in ascending station number is the model's
order (log 25). -/
def Obligations.PeerTableKept : Prop := KeptByStep State.peersKept

/-- A block is Blocked exactly while it lies in the window of a clashing peer (R36, R76, R77). -/
def Obligations.BlockedExactlyInClash : Prop := KeptByStep State.blockedInClash

/-! ### Scene clock -/

/-- CLOCK_STEP (R42, R43, R57, R161, R162, R163): the scene time advances by the increment 14,400 / D and by the catch-up,
the smaller of owed and the increment, round the day; phase and daylight level follow. Then the cues due fire in list
order, each raising the index and performing its action: those from the index on whose trigger point the new time reaches;
over the day wrap all those to the end of the list, and after them those from its start. Last, the cue time is the new
time. Own events still pending are taken before (R165, log 17). -/
def Obligations.ClockStepMovesTime : Prop :=
  ∀ s : State, s.active = true →
    Answers .clockStep s fun t =>
      let i := 14400 / s.settings.dayLength
      let slew := min s.clock.owed i
      let now := (s.clock.time + i + slew) % 86400000
      let clock := s.clock.standsAt s.settings now (s.clock.owed - slew)
      let fired (v : State) (c : Cue) : State :=
        perform (some 0) c.action { v with cues := { v.cues with index := v.cues.index + 1 } }
      let reached (cues : List Cue) := cues.takeWhile fun c => decide (c.minute * 60000 ≤ now)
      let ahead := s.cues.cues.drop s.cues.index
      let u := settleOwn s
      let moved : State := { u with clock := clock }
      let wrapped := ahead.foldl fired moved
      let done : State :=
        if s.cues.cueTime ≤ now then (reached ahead).foldl fired moved
        else (reached s.cues.cues).foldl fired { wrapped with cues := { wrapped.cues with index := 0 } }
      t = { done with cues := { done.cues with cueTime := now } } ∧ (s.cues.own = [] → u = s) ∧
      State.changesByActions { s with clock := clock } t ∧
      t.cues.cueTime = now ∧ t.cues.index = s.cues.indexAt now

/-- TIME_MARK (R48 to R54, R129, R140, R166, R168): a malformed mark is counted, one of another day length code sets
RateMismatch. Otherwise its raw difference decides: outside adoption one that reads as 0 or negative is ignored, one below
an hour becomes owed, and any other is a jump; during adoption it is a jump whatever it is. At a jump the overrides are
watched at the new time, and the cues it passes are taken in list order: a set action is last seen at its trigger point and
watched, clear and power actions are applied, each one-shot only counts in Missed. Own events still pending are taken
before (R165, log 17). -/
def Obligations.TimeMarkTaken : Prop :=
  ∀ (s : State) (m : InMsg) (rest : List InMsg), s.offersHead m rest → m.kind = .timeMark → m.stamp < 86400000 →
    let time := num4 m.body 0
    let code := byteAt m.body 4
    let r := (time + 86400000 - m.stamp) % 86400000
    let ok := time < 86400000 ∧ 1 ≤ code ∧ code ≤ 27
    let own := code = dayCode s.settings.dayLength
    let jumps := Answers .timeMark s fun t =>
      let now := (s.clock.time + r) % 86400000
      let clock : Clock := { s.clock.standsAt s.settings now 0 with adopting := false, jumps := true }
      let taken (v : State) (c : Cue) : State :=
        let v' : State := { v with cues := { v.cues with index := v.cues.index + 1 } }
        let overridden (g : Group) (o : Option Override) : State :=
          { v' with lamps := v'.lamps.setGroup g { v'.lamps.group g with override := o } }
        match c.action with
        | .lampSet g level none => overridden g (some { level := level, ending := none })
        | .lampSet g level (some until') => overridden g
            (if inForward (c.minute * 60000) now (until' * 60000) then none
            else some { level := level, ending := some (until', now) })
        | .lampClear g => overridden g none
        | .power p => setLevel p v'
        | .rotaryRun _ _ | .rotaryStop _ | .rotaryClear _ | .trainSpeed _ _ | .trainStop _ | .trainReverse _
        | .showEvent _ => { v' with cues := { v'.cues with missed := min 255 (v'.cues.missed + 1) } }
      let reached (cues : List Cue) := cues.takeWhile fun c => decide (c.minute * 60000 ≤ now)
      let ahead := s.cues.cues.drop s.cues.index
      let u := settleOwn { s.took rest with clock := { s.clock with adopting := false } }
      let moved : State := { u with clock := clock, lamps := u.lamps.watchOverrides now }
      let wrapped := ahead.foldl taken moved
      let done : State :=
        if s.cues.cueTime ≤ now then (reached ahead).foldl taken moved
        else (reached s.cues.cues).foldl taken { wrapped with cues := { wrapped.cues with index := 0 } }
      t = { done with cues := { done.cues with cueTime := now } } ∧
      (s.cues.own = [] → u = { s.took rest with clock := { s.clock with adopting := false } }) ∧
      State.changesByActions { s.took rest with clock := clock } t ∧
      t.cues.cueTime = now ∧ t.cues.index = s.cues.indexAt now ∧
      (s.cues.own = [] → s.cues.cues = [] → t.lamps = s.lamps.watchOverrides now)
    (¬ok → exec .timeMark s = .next (s.tookMalformed rest)) ∧
    (ok → ¬own → exec .timeMark s = .next { s.took rest with clock := { s.clock with rateMismatch := true } }) ∧
    (ok → own → s.clock.adopting = true → jumps) ∧
    (ok → own → s.clock.adopting = false →
      (r = 0 ∨ 43200000 ≤ r → exec .timeMark s = .next (s.took rest)) ∧
      (1 ≤ r → r < 3600000 →
        exec .timeMark s = .next { s.took rest with clock := { s.clock with owed := r } }) ∧
      (3600000 ≤ r → r < 43200000 → jumps))

/-- Scene time, catch-up, phase, daylight level, cue time and every arrival stamp stay in step and in range (R9, R43, R50,
R56, R57, R159). -/
def Obligations.SceneTimeKept : Prop := KeptByStep State.sceneTimeKept

/-- Phase and daylight level of any record's curve (R56, R57): the four phases stand where the curve puts them; the level
is the night floor in Night, 1000 in Day, and in Dawn and Dusk runs between them with the whole scene seconds since the
phase start; it never leaves the range from the night floor to 1000. -/
def Obligations.DaylightFollowsCurve : Prop :=
  ∀ (record : List Byte) (t : Nat),
    let st := settingsOf record
    let f := st.nightFloor
    let dawn := st.dawnStart * 60000
    let day := (st.dawnStart + st.dawnLength) * 60000
    let dusk := st.duskStart * 60000
    let night := (st.duskStart + st.duskLength) * 60000
    f ≤ daylightAt st t ∧ daylightAt st t ≤ 1000 ∧
    (phaseAt st t = .dawn ↔ dawn ≤ t ∧ t < day) ∧ (phaseAt st t = .day ↔ day ≤ t ∧ t < dusk) ∧
    (phaseAt st t = .dusk ↔ dusk ≤ t ∧ t < night) ∧ (phaseAt st t = .night ↔ t < dawn ∨ night ≤ t) ∧
    (phaseAt st t = .night → daylightAt st t = f) ∧ (phaseAt st t = .day → daylightAt st t = 1000) ∧
    (phaseAt st t = .dawn →
      daylightAt st t = f + (1000 - f) * ((t - dawn) / 1000) / (st.dawnLength * 60)) ∧
    (phaseAt st t = .dusk →
      daylightAt st t = 1000 - (1000 - f) * ((t - dusk) / 1000) / (st.duskLength * 60))

/-! ### Track unit -/

/-- CLAIM (R64 to R68): a malformed Claim is counted; a well-formed one is answered by the first row of R65's table whose
situation holds, a Grant going to station 0 and a Refuse to the requester; a new reservation is broadcast, a refresh is
not; the train table derives its states afresh. -/
def Obligations.ClaimAnswered : Prop :=
  ∀ (s : State) (m : InMsg) (rest : List InMsg), s.offersHead m rest → m.kind = .claim →
    let b := byteAt m.body 0
    let n := byteAt m.body 1
    let ok := 1 ≤ n ∧ n ≤ 127 ∧ (byteAt m.body 4 = 1 ∨ byteAt m.body 4 = 2) ∧
      (byteAt m.body 5 = 0 ∨ byteAt m.body 5 = 1)
    let v : Reservation :=
      { train := n, station := m.src, expiry := s.settings.holdTime * 1000, level := min 1000 (num2 m.body 2)
        dir := if byteAt m.body 4 = 1 then .forward else .reverse
        origin := if byteAt m.body 5 = 1 then some (byteAt m.body 6) else none }
    let u := s.took rest
    let refused (t : State) (why : Byte) :=
      t.blocks = s.blocks ∧ u.sends t [outMsg m.src .refuse [why, toByte b, toByte n]]
    let recorded := s.blocks.map fun r => if r.number = b then { r with state := .reserved v } else r
    let grant := outMsg 0 .grant [toByte b, toByte n, toByte m.src]
    let full := s.hasTrain n = false ∧ 4 ≤ s.trains.records.length + s.foreignCount
    (¬ok → exec .claim s = .next (s.tookMalformed rest)) ∧
    (ok → Answers .claim s fun t =>
      u.changesTrack t ∧ t.freeCount = s.freeCount ∧ u.restated t ∧
      (s.block b = none → refused t 1) ∧
      ∀ r, s.block b = some r →
        (s.isRunning = false → t.blocks = s.blocks ∧ u.sends t []) ∧
        (s.isRunning = true →
          (r.coolOff ≠ none ∨ r.state = .blocked → refused t 3) ∧
          (r.coolOff = none →
            (∀ w, r.state = .reserved w → w.train = n ∧ w.station = m.src →
              t.blocks = recorded ∧ u.sends t [grant]) ∧
            (∀ w, r.state = .reserved w → ¬(w.train = n ∧ w.station = m.src) → refused t 4) ∧
            (r.state = .occupied n → t.blocks = s.blocks ∧ u.sends t [grant]) ∧
            (∀ k, r.state = .occupied k → k ≠ n → refused t 5) ∧
            (r.state = .intruded → refused t 5) ∧
            (r.state = .free → full → refused t 6) ∧
            (r.state = .free → ¬full → t.blocks = recorded ∧
              u.sends t [outMsg 0 .blockState [toByte b, 1, toByte n, toByte s.settings.station], grant]))))

/-- RELEASE, RESERVATION_EXPIRY, COOLOFF_END (R62, R70, R72): a Release by the holder and the end of the hold time make a
Reserved record Free, noticed and broadcast; a Release by any other does nothing, nor does an expiry at a record that is
not Reserved, which no rule lets occur (log 2); a CoolOff that ends only ends. -/
def Obligations.ReservationsEnd : Prop :=
  (∀ (s : State) (m : InMsg) (rest : List InMsg), s.offersHead m rest → m.kind = .release →
    let b := byteAt m.body 0
    let n := byteAt m.body 1
    ((n = 0 ∨ 127 < n) → exec .release s = .next (s.tookMalformed rest)) ∧
    (1 ≤ n → n ≤ 127 →
      (∀ v, s.blockState b = some (.reserved v) → v.train = n → v.station = m.src →
        Answers .release s ((s.took rest).frees b)) ∧
      ((∀ v, s.blockState b = some (.reserved v) → ¬(v.train = n ∧ v.station = m.src)) →
        exec .release s = .next (s.took rest)))) ∧
  ∀ (s : State) (b : Nat),
    (∀ v, s.blockState b = some (.reserved v) → Answers (.reservationExpiry b) s (s.frees b)) ∧
    ((∀ v, s.blockState b ≠ some (.reserved v)) → exec (.reservationExpiry b) s = .next s) ∧
    (let blocks := s.blocks.map fun r => if r.number = b then { r with coolOff := none } else r
     exec (.cooloffEnd b) s = .next { s with blocks := blocks })

/-- TRAIN_PLACE (R74, R90): malformed ones are counted; outside the own window and in Listening it is ignored; a Free,
Reserved, Occupied or Blocked record and a full table refuse it to its source; an Intruded record becomes Occupied by the
train, whose new record stands with the placement's direction, or whose old record has the block as its new head and no
entered-from any more (log 16). -/
def Obligations.TrainPlaceTaken : Prop :=
  ∀ (s : State) (m : InMsg) (rest : List InMsg), s.offersHead m rest → m.kind = .trainPlace →
    let b := byteAt m.body 0
    let n := byteAt m.body 1
    let ok := 1 ≤ n ∧ n ≤ 127 ∧ (byteAt m.body 2 = 1 ∨ byteAt m.body 2 = 2)
    let u := s.took rest
    let refused (why : Byte) :=
      exec .trainPlace s = .next (offer (outMsg m.src .refuse [why, toByte b, toByte n]) u)
    let new : Train :=
      { num := n, dir := if byteAt m.body 2 = 1 then .forward else .reverse, target := 0, present := 0, trail := [b]
        stopReached := false, leaving := false, enteredFrom := none, reversal := .none }
    (¬ok → exec .trainPlace s = .next (s.tookMalformed rest)) ∧
    (ok → s.isRunning = false ∨ s.block b = none → exec .trainPlace s = .next u) ∧
    (ok → s.isRunning = true → ∀ r, s.block b = some r →
      (r.state = .free ∨ (∃ v, r.state = .reserved v) → refused 7) ∧
      (∀ k, r.state = .occupied k → refused 5) ∧
      (r.state = .blocked → refused (if r.detOccupied then 5 else 7)) ∧
      (r.state = .intruded → s.hasTrain n = false →
        (4 ≤ s.trains.records.length + s.foreignCount → refused 6) ∧
        (s.trains.records.length + s.foreignCount < 4 → Answers .trainPlace s fun t =>
          u.changesTrack t ∧ t.freeCount = s.freeCount ∧
          (t.blocks = s.blocks.map fun r => if r.number = b then { r with state := .occupied n } else r) ∧
          u.sends t [outMsg 0 .blockState [toByte b, 2, toByte n, toByte s.settings.station]] ∧
          t.trains = { s.trains with records := t.trains.records } ∧
          ∀ x, x ∈ t.trains.records ↔ x = new ∨ ∃ y ∈ s.trains.records, x = t.stopIfHeld y)) ∧
      (r.state = .intruded → s.hasTrain n = true → Answers .trainPlace s fun t =>
        u.changesTrack t ∧ t.blockState b = some (.occupied n) ∧ t.trainNumbers = s.trainNumbers ∧
        ∀ x ∈ t.trains.records, x.num = n → ∃ y ∈ s.trains.records, y.num = n ∧
          x.trail = (b :: y.trail).take 3 ∧ x.dir = y.dir ∧ x.target = y.target ∧ x.enteredFrom = none ∧
          x.stopReached = false ∧ x.leaving = y.leaving ∧ x.reversal = y.reversal))

/-- DETECTOR_SAMPLE (R59 to R62, R69, R71, R73, R84, R85): every own block takes its sample; three samples in a row at or
above the occupancy threshold make its detector Occupied, 32 below it (128 in extended vacancy) Vacant, and a declaration
makes both runs 0 and is handed to the block record at once, in ascending block order; the second sample in a row at or
above the trip current starts a CoolOff of 2 s and raises Short; each present stop sensor that turns active gives a passage,
the rising end first. A passage at the exit end of the head of a record that is not Leaving sets its stop reached mark,
stops it if its exit is not held, and makes an own event of an arrival code other than 0; that a mark already set is set
once more, the passage an arrival again, is the model's reading (log 14). The notices stand among the other
routine offers of the sample in any places (R12, log 6). The order across blocks is log 12; own events still pending are
taken before an arrival (log 17), and what they offer stands as log 36 says. The block numbers are those of distinct blocks (BlockedExactlyInClash). -/
def Obligations.DetectorsDebounce : Prop :=
  (∀ (s : State) (currents : List Nat) (sensors : List EndSensors), s.active = true → currents.length = 8 →
    sensors.length = 8 → s.blockNumbers.Nodup →
    let x (r : Block) := min 4000 (currents.getD (r.number - s.settings.winBase) 0)
    let high (r : Block) := decide (s.settings.occThreshold ≤ x r)
    let occupied (r : Block) := !r.detOccupied && high r && decide (3 ≤ r.highRun + 1)
    let vacant (r : Block) := r.detOccupied && !high r &&
      decide ((if (s.settings.slot r.number).extended then 128 else 32) ≤ r.lowRun + 1)
    let atTrip (r : Block) := r.coolOff.isNone && decide (s.settings.tripCurrent ≤ x r)
    let short (r : Block) := atTrip r && decide (2 ≤ r.shortRun + 1)
    let sensor (r : Block) := sensors.getD (r.number - s.settings.winBase) { rising := false, falling := false }
    let rising (r : Block) := (s.settings.slot r.number).risingPresent && (sensor r).rising
    let falling (r : Block) := (s.settings.slot r.number).fallingPresent && (sensor r).falling
    let debounced (r : Block) : Block :=
      { r with
        detOccupied := if occupied r then true else if vacant r then false else r.detOccupied
        highRun := if occupied r || vacant r then 0 else if r.detOccupied then (if high r then r.highRun else 0)
          else if high r then r.highRun + 1 else 0
        lowRun := if occupied r || vacant r then 0 else if r.detOccupied then (if high r then 0 else r.lowRun + 1)
          else if high r then 0 else r.lowRun }
    let sampled : State := { s with blocks := s.blocks.map fun r => { r with sample := x r } }
    let declares (v : State) (r : Block) : State :=
      let v' : State :=
        { v with blocks := v.blocks.map fun q => if q.number = r.number then { debounced r with state := q.state } else q }
      if occupied r then occupancyDeclared r.number v' else if vacant r then vacancyDeclared r.number v' else v'
    let declared := sampled.blocks.foldl declares sampled
    let intrusions := sampled.blocks.foldl (fun (v : State × List Nat) r =>
      (declares v.1 r, if occupied r ∧ v.1.blockState r.number = some .free then v.2 ++ [r.number] else v.2)) (sampled, [])
    let shorts := (s.blocks.filter fun r => short r).map fun r => r.number
    let tested : State :=
      { declared with
        blocks := List.zipWith (fun (q r : Block) =>
          { q with shortRun := if short r then 0 else if atTrip r then r.shortRun + 1 else 0
                   coolOff := if short r then some 2000 else r.coolOff }) declared.blocks s.blocks
        faults := if shorts = [] then declared.faults else
          { active := declared.faults.active.set .short true, fresh := declared.faults.fresh.set .short true } }
    let passages (v : State) (r : Block) : State :=
      let v' : State := { v with blocks := v.blocks.map fun q =>
        if q.number = r.number then { q with risingWas := rising r, fallingWas := falling r } else q }
      let v'' := if rising r && !r.risingWas then passage r.number .forward (s.settings.slot r.number).risingCode v' else v'
      if falling r && !r.fallingWas then passage r.number .reverse (s.settings.slot r.number).fallingCode v'' else v''
    let read := s.blocks.foldl passages tested
    let notice (code : Byte) (b : Nat) := outMsg 0 .faultNotice [code, toByte (b / 256), toByte b]
    let notices :=
      (if s.settings.mask.intrusion then [] else intrusions.2.map (notice 7)) ++
      (if s.settings.mask.short then [] else shorts.map (notice 6))
    Answers (.detectorSample currents sensors) s fun t =>
      t = { read with line := { read.line with routine := t.line.routine }, freeCount := t.freeCount
                      counters := { read.counters with outDrop := t.counters.outDrop } } ∧
      (notices = [] ∨ s.isRunning = false → t = read) ∧
      (s.isRunning = true → read.line.routine.msgs.length ≤ 6 →
        (s.line.routine.head = none → s.line.routine.rest = []) →
        State.offersAmong s.line.routine.msgs.length notices read t) ∧
      s.changesByActions t ∧
      ((∃ r ∈ s.blocks, short r = true) → t.faults.active.short = true ∧ t.faults.fresh.short = true) ∧
      t.blocks.map (fun r => { r with state := .free }) = s.blocks.map fun r =>
        { debounced r with
          state := .free, sample := x r
          shortRun := if short r then 0 else if atTrip r then r.shortRun + 1 else 0
          coolOff := if short r then some 2000 else r.coolOff
          risingWas := rising r, fallingWas := falling r }) ∧
  ∀ (s : State) (b : Nat) (stopEnd : Dir) (code : Nat),
    let stops (x : Train) : Prop := x.leaving = false ∧ x.trail.head? = some b ∧ x.dir = stopEnd
    ((∀ x ∈ s.trains.records, ¬stops x) → passage b stopEnd code s = s) ∧
    ((∃ x ∈ s.trains.records, stops x) → ∃ u : State,
      u = { s with trains := { s.trains with records := u.trains.records } } ∧
      (∀ (i : Nat) (x y : Train), s.trains.records[i]? = some x → u.trains.records[i]? = some y →
        (stops x → y = { x with stopReached := true, present := if s.exitHeld x then x.present else 0 }) ∧
        (¬stops x → y = s.stopIfHeld x)) ∧
      u.trains.records.length = s.trains.records.length ∧
      (code = 0 → passage b stopEnd code s = u) ∧
      (code ≠ 0 → (s.cues.own = [] → settleOwn u = u) ∧ passage b stopEnd code s = perform (some 0) (.showEvent code) (settleOwn u)))

/-- Declared occupancy and vacancy, and the blocked set (R64, R69, R71, R73, R76, R77, R86 to R91, R105): occupancy consumes
a reservation, whose train has the block pushed onto its trail, or a new record that takes direction, target and present
speed from the claim; a local exit it wants is claimed, a remote one asked for; the change is broadcast last (log 16). It
makes a Free record Intruded with Intrusion raised. Vacancy frees an Intruded record, and an Occupied one, whose block
leaves its train's trail; an emptied trail removes the record; a block the trail had dropped may let a reversal go ahead,
after the broadcast. A block joining the blocked set becomes Blocked whatever its state, the loss of an Occupied one handed
on likewise; one leaving it becomes Free or Intruded by its detector. Everything else leaves the record as it is. -/
def Obligations.DeclarationsMoveBlocks : Prop :=
  ∀ (s : State) (b : Nat), s.trainNumbers.Nodup →
    let told (code : Byte) (n : Nat) := outMsg 0 .blockState [toByte b, code, toByte n, toByte s.settings.station]
    let gaveUp (n : Nat) (st : BlockState) (code : Byte) (t : State) : Prop :=
      s.changesTrack t ∧ (∀ x ∈ t.trains.records, x.num = n → b ∉ x.trail) ∧
      (∀ y ∈ s.trains.records, y.num = n → b ∈ y.trail →
        t.blockState b = some st ∧ (∃ msgs, s.sends t (msgs ++ [told code 0])) ∧
        ((∀ x ∈ y.trail, x = b) → t.hasTrain n = false ∧ ∀ c ∈ t.trains.claims, c.train ≠ n) ∧
        ((∃ x ∈ y.trail, x ≠ b) → ∀ x ∈ t.trains.records, x.num = n → x = t.stopIfHeld
          { y with trail := y.trail.filter fun k => k != b
                   stopReached := y.stopReached && y.trail.head? != some b })) ∧
      ((∀ y ∈ s.trains.records, y.num = n → b ∉ y.trail) → ∃ u, s.turns b st u ∧
        ((∀ y ∈ u.trains.records, y.num ≠ n) → t = u) ∧
        ∀ y ∈ u.trains.records, y.num = n →
          let due := y.reversal ≠ .none ∧ y.leaving = false ∧ y.present = 0 ∧ y.enteredFrom = none ∧
            u.hasDroppedBlock y = false
          (due → t = performReversal n u) ∧ (¬due → t = u))
    (∀ v, s.blockState b = some (.reserved v) →
      let t := occupancyDeclared b s
      s.changesTrack t ∧ t.blockState b = some (.occupied v.train) ∧ t.hasTrain v.train = true ∧
      (∃ msgs, s.sends t (msgs ++ [told 2 v.train])) ∧
      (∀ x ∈ t.trains.records, x.num ≠ v.train → ∃ y ∈ s.trains.records, x = y ∨ x = { y with present := 0 }) ∧
      (s.hasTrain v.train = false → ∀ x ∈ t.trains.records, x.num = v.train → x =
        { num := v.train, dir := v.dir, target := v.level, present := v.level, trail := [b], stopReached := false
          leaving := false, reversal := .none
          enteredFrom := match v.origin with
            | some o => if s.settings.owns o then none else some o
            | none => none }) ∧
      (∀ y ∈ s.trains.records, y.num = v.train → ∀ x ∈ t.trains.records, x.num = v.train → x =
        { y with trail := (b :: y.trail).take 3, enteredFrom := none, stopReached := false }) ∧
      ((∀ c ∈ s.trains.claims, s.hasTrain c.train = true) → ∀ x ∈ t.trains.records, x.num = v.train →
        x.leaving = false → 0 < x.target → ∀ e, x.exit s.settings = some e →
          (s.settings.owns e = false → ∃ c ∈ t.trains.claims, c.train = x.num ∧ c.block = e) ∧
          (∀ r, s.block e = some r → s.settings.owns e = true → e ≠ b → s.isRunning = true → r.coolOff = none →
            r.state = .free →
            t.blockState e = some (.reserved
              { train := x.num, station := s.settings.station, expiry := s.settings.holdTime * 1000
                level := x.present, dir := x.dir, origin := some b })))) ∧
    (s.blockState b = some .free →
      let t := occupancyDeclared b s
      t = { s with blocks := t.blocks, trains := t.trains
                   faults := { active := s.faults.active.set .intrusion true
                               fresh := s.faults.fresh.set .intrusion true }
                   line := { s.line with routine := t.line.routine }
                   counters := { s.counters with outDrop := t.counters.outDrop } } ∧
      s.restated t ∧ s.sends t [told 3 0] ∧
      t.blocks = s.blocks.map fun r => if r.number = b then { r with state := .intruded } else r) ∧
    (s.blockState b ≠ some .free → (∀ v, s.blockState b ≠ some (.reserved v)) → occupancyDeclared b s = s) ∧
    (∀ n, s.blockState b = some (.occupied n) →
      let t := vacancyDeclared b s
      gaveUp n .free 0 t ∧ (t.blockState b = some .free ∨
        ∃ v, t.blockState b = some (.reserved v) ∧ v.train = n ∧ v.station = s.settings.station)) ∧
    (s.blockState b = some .intruded → s.frees b (vacancyDeclared b s)) ∧
    (s.blockState b ≠ some .intruded → (∀ n, s.blockState b ≠ some (.occupied n)) → vacancyDeclared b s = s) ∧
    (∀ n, s.blockState b = some (.occupied n) → gaveUp n .blocked 4 (joinBlocked b s)) ∧
    (∀ st, s.blockState b = some st → (∀ n, st ≠ .occupied n) → s.turns b .blocked (joinBlocked b s)) ∧
    ∀ r, s.block b = some r → s.turns b (if r.detOccupied then .intruded else .free) (leaveBlocked b s)

/-! ### Train table -/

/-- GRANT, REFUSE, ANSWER_TIMEOUT, RETRY_WAIT_END and the sending of claims (R38, R95 to R99, R101): claims are gone through
in creation order, and a Queued one is sent while fewer than 2 are Sent, with no wait, a target above 0, a Heard line,
exactly one Fresh owner and no young view entry against it; dropped at the offer, it waits 1 s. A Grant naming this station makes the
claim Granted, or is answered by a Release if there is none; a Refuse and a missing answer return a Sent claim to Queued,
Busy, Occupied, Full and no answer with a retry wait of 1 s, NotOwner and Blocked until the source announces, Vacant with no
wait (log 13); the retry wait ends. -/
def Obligations.AnswersReachClaims : Prop :=
  (∀ (s : State) (m : InMsg) (rest : List InMsg), s.offersHead m rest → m.kind = .grant →
    let b := byteAt m.body 0
    let n := byteAt m.body 1
    let own := byteAt m.body 2 = s.settings.station
    ((n = 0 ∨ 127 < n) → exec .grant s = .next (s.tookMalformed rest)) ∧
    (1 ≤ n → n ≤ 127 →
      (¬own → exec .grant s = .next (s.took rest)) ∧
      (own → s.hasClaim n b = false →
        exec .grant s = .next (offer (outMsg m.src .release [toByte b, toByte n]) (s.took rest))) ∧
      (own → s.hasClaim n b = true → Answers .grant s fun t =>
        t = { s.took rest with trains := t.trains } ∧
        (let claims := s.trains.claims.map fun c =>
           if c.train = n ∧ c.block = b then { c with state := .granted } else c
         t.trains = { s.trains with claims := claims, records := s.trains.records.map t.stopIfHeld })))) ∧
  (∀ (s : State) (m : InMsg) (rest : List InMsg), s.offersHead m rest → m.kind = .refuse →
    let why := byteAt m.body 0
    let b := byteAt m.body 1
    let n := byteAt m.body 2
    let ok := 1 ≤ n ∧ n ≤ 127 ∧ (why = 1 ∨ (3 ≤ why ∧ why ≤ 7))
    let back (st : ClaimState) : State :=
      let claims := s.trains.claims.map fun c =>
        if c.train = n ∧ c.block = b ∧ c.isSent = true then { c with state := st } else c
      { s.took rest with trains := { s.trains with claims := claims } }
    (¬ok → exec .refuse s = .next (s.tookMalformed rest)) ∧
    (ok → (4 ≤ why → why ≤ 6 → exec .refuse s = .next (back (.queued (some 1000) none))) ∧
      (why ≤ 3 → exec .refuse s = .next (back (.queued none (some m.src)))) ∧
      (why = 7 → exec .refuse s = .next (back (.queued none none))))) ∧
  (∀ (s : State) (n : Nat),
    let after (f : PClaim → PClaim) : State :=
      let claims := s.trains.claims.map fun c => if c.train = n then f c else c
      { s with trains := { s.trains with claims := claims } }
    exec (.answerTimeout n) s = .next (after PClaim.unanswered) ∧
      exec (.retryWaitEnd n) s = .next (after PClaim.waited)) ∧
  ∀ s : State,
    let fresh (b : Nat) := s.peers.entries.filter fun p => p.fresh && decide (p.base ≤ b ∧ b < p.base + p.size)
    (∀ b, (s.lookupOwner b = .unknown ↔ fresh b = []) ∧
      (∀ o, s.lookupOwner b = .found o ↔ ∃ p, fresh b = [p] ∧ p.station = o) ∧
      (s.lookupOwner b = .ambiguous ↔ 2 ≤ (fresh b).length)) ∧
    (sendClaims s = s.trains.claims.foldl trySend s) ∧
    ∀ c : PClaim,
      let against (e : ViewEntry) : Prop := e.block = c.block ∧ e.age < 50 ∧
        (e.state = .occupied ∨ e.state = .intruded ∨ e.state = .blocked ∨ (e.state = .reserved ∧ e.train ≠ c.train))
      ((2 ≤ s.sentCount ∨ c.state ≠ .queued none none ∨ (∀ x, s.trains.find c.train = some x → x.target = 0) ∨
          s.line.cond ≠ .heard ∨ (∀ o, s.lookupOwner c.block ≠ .found o) ∨ (∃ e ∈ s.trains.view, against e)) →
        trySend s c = s) ∧
      ∀ o x, s.sentCount < 2 → c.state = .queued none none → s.trains.find c.train = some x → 0 < x.target →
        s.line.cond = .heard → s.lookupOwner c.block = .found o → (∀ e ∈ s.trains.view, ¬against e) →
        let level := min x.target s.settings.approach
        let k := s.trains.nextTicket
        let dropped := s.isRunning = true ∧ 4 ≤ s.line.urgent.length
        let state : ClaimState := if dropped then .queued (some 1000) none else .sent k none
        let sent (q : PClaim) : PClaim := { q with owner := some o, level := level, state := state }
        let claims := s.trains.claims.map fun q => if q.train = c.train ∧ q.block = c.block then sent q else q
        trySend s c = offer
          { dest := o, kind := .claim, ticket := some k
            body := [toByte c.block, toByte c.train, toByte (level / 256), toByte level,
                     if x.dir = .forward then 1 else 2, if x.trail = [] then 0 else 1, toByte (x.trail.headD 0)] }
          { s with trains := { s.trains with claims := claims, nextTicket := k + 1 } }

/-- BLOCK_STATE (R93, R100, R102, R103): a malformed report is counted, one about an own block is not used. Occupied by
the claim's train completes the claim, which is gone, and makes the record Leaving; a Granted claim whose block is not
kept for it is Queued again with a retry wait of 1 s, and every other claim stays; Free clears the entered-from of the
records that came from there, and their pending reversals that are due are performed, in ascending train number (log 33),
after the claims and the view have taken the report (the model's order, log 16);
the neighbour view takes the report if the block is a remote neighbour. -/
def Obligations.BlockStateTaken : Prop :=
  ∀ (s : State) (m : InMsg) (rest : List InMsg), s.offersHead m rest → m.kind = .blockState →
    let b := byteAt m.body 0
    let code := byteAt m.body 1
    let n := byteAt m.body 2
    let by' := byteAt m.body 3
    let ok := code ≤ 4 ∧ n ≤ 127 ∧ 1 ≤ by' ∧ by' ≤ 63
    let u := s.took rest
    (¬ok → exec .blockState s = .next (s.tookMalformed rest)) ∧
    (ok → s.settings.owns b = true → exec .blockState s = .next u) ∧
    (ok → s.settings.owns b = false → Answers .blockState s fun t =>
      let completes (c : PClaim) := decide (code = 2) && c.train == n && c.block == b
      let loses (c : PClaim) := c.isGranted && c.block == b && !(decide (code = 1 ∨ code = 2) && c.train == n)
      let left := (s.trains.claims.filter fun c => !completes c).map fun c =>
        if loses c then { c with state := .queued (some 1000) none } else c
      let crossed (x : Train) := x.num == n && s.trains.claims.any completes
      let cameFrom (x : Train) := decide (code = 0 ∧ x.enteredFrom = some b)
      let told (x : Train) : Train :=
        { x with leaving := x.leaving || crossed x, reversal := if crossed x then .none else x.reversal
                 enteredFrom := if cameFrom x then none else x.enteredFrom }
      (∃ w : State,
        w = { u with trains := { w.trains with nextTicket := s.trains.nextTicket } } ∧ w.trains.claims = left ∧
        w.trains.records = (s.trains.records.map told).map w.stopIfHeld ∧ w.trains.view = t.trains.view ∧
        t = ((s.trains.records.filter cameFrom).map fun x => x.num).foldl tryReversal w) ∧
      (code ≠ 0 ∨ (∀ x ∈ s.trains.records, cameFrom x = true → x.reversal = .none) → t.trains.claims = left) ∧
      (∀ c ∈ s.trains.claims, loses c = true → completes c = false →
        (∀ x ∈ s.trains.records, x.num = c.train → cameFrom x = false) →
        { c with state := .queued (some 1000) none } ∈ t.trains.claims) ∧
      u.changesTrack t ∧
      (∀ c ∈ t.trains.claims, c.block = b → c.isGranted = true → (code = 1 ∨ code = 2) ∧ c.train = n) ∧
      (code = 2 → ∀ c ∈ t.trains.claims, ¬(c.train = n ∧ c.block = b)) ∧
      (code = 2 → s.hasClaim n b = true →
        ∀ x ∈ t.trains.records, x.num = n → x.leaving = true ∧ x.reversal = .none) ∧
      (code = 0 → ∀ x ∈ t.trains.records, x.enteredFrom ≠ some b) ∧
      (code ≠ 0 → t = { u with trains := t.trains } ∧ t.trainNumbers = s.trainNumbers) ∧
      (s.isRemoteNeighbour b = false → t.trains.view = s.trains.view) ∧
      (s.isRemoteNeighbour b = true → ∀ st, Reported.ofCode code = some st →
        let new : ViewEntry := { block := b, state := st, train := n, reporter := by', age := 0 }
        ((∃ e ∈ s.trains.view, e.block = b) ∨ s.trains.view.length < 16 →
          ∀ e, e ∈ t.trains.view ↔ e = new ∨ (e ∈ s.trains.view ∧ e.block ≠ b)) ∧
        ((∀ e ∈ s.trains.view, e.block ≠ b) → 16 ≤ s.trains.view.length →
          (s.trains.view.map fun e => e.block).Pairwise (· < ·) → ∀ o ∈ s.trains.view,
          (∀ e ∈ s.trains.view, e.age < o.age ∨ (e.age = o.age ∧ o.block ≤ e.block)) →
          ∀ e, e ∈ t.trains.view ↔ e = new ∨ (e ∈ s.trains.view ∧ e.block ≠ o.block))))

/-- TRAIN_ORDER_SPEED and TRAIN_ORDER_STOP (R104): a malformed train number is counted; Speed sets the
target, 1000 at most, or the resume speed of a pending reversal; Stop sets the target 0 and takes the resume speed of a
pending reversal away; other trains keep what they have. -/
def Obligations.SpeedAndStopOrders : Prop :=
  ∀ (s : State) (m : InMsg) (rest : List InMsg), s.offersHead m rest → m.kind = .trainOrder →
    let n := byteAt m.body 0
    let code := byteAt m.body 1
    let v := min 1000 (num2 m.body 2)
    let speed (x : Train) : Train :=
      if x.num = n then (if x.reversal = .none then { x with target := v } else { x with reversal := .resume v }) else x
    let stop (x : Train) : Train :=
      if x.num = n then
        { x with target := 0, reversal := if x.reversal = .none then .none else .pending }
      else x
    let ordered (c : Instr) (f : Train → Train) := Answers c s fun t =>
      t = { s.took rest with trains := t.trains } ∧
      t.trains = { s.trains with records := (s.trains.records.map f).map t.stopIfHeld }
    ((n = 0 ∨ 127 < n) → (code = 1 → exec .trainOrderSpeed s = .next (s.tookMalformed rest)) ∧
      (code = 2 → exec .trainOrderStop s = .next (s.tookMalformed rest))) ∧
    (1 ≤ n → n ≤ 127 → (code = 1 → ordered .trainOrderSpeed speed) ∧ (code = 2 → ordered .trainOrderStop stop))

/-- TRAIN_ORDER_REVERSE (R81, R86, R87, R105, R106): ignored for a train without a record, for a Leaving record and while a
reversal is pending. With present speed 0, entered-from absent and no dropped block still Occupied, the record turns round
at once and keeps its target; the reservation of the exit it had (log 15) is released and broadcast; its claim is gone, a
Granted one with a Release to its owner (who is open if it was never sent, log 9); then a wanted exit is asked for.
Otherwise its target becomes 0 and a reversal is pending. Asking: a local exit is claimed at once; for a remote one a
record without a claim gets a Queued one at the end of the list, and claims are sent. -/
def Obligations.ReverseOrderTaken : Prop :=
  (∀ (s : State) (m : InMsg) (rest : List InMsg), s.offersHead m rest → m.kind = .trainOrder → byteAt m.body 1 = 3 →
    let n := byteAt m.body 0
    let u := s.took rest
    ((n = 0 ∨ 127 < n) → exec .trainOrderReverse s = .next (s.tookMalformed rest)) ∧
    (1 ≤ n → n ≤ 127 →
      (s.hasTrain n = false → exec .trainOrderReverse s = .next u) ∧
      ∀ y, s.trainNumbers.Nodup → y ∈ s.trains.records → y.num = n →
        let ready := y.present = 0 ∧ y.enteredFrom = none ∧ s.hasDroppedBlock y = false
        let turned : Train :=
          { y with dir := if y.dir = .forward then .reverse else .forward, trail := y.trail.reverse
                   stopReached := false }
        let held (r : Block) := y.exit s.settings == some r.number && r.state.heldFor n s.settings.station
        let granted := s.trains.claims.filter fun c => c.train == n && c.isGranted
        (y.leaving = true ∨ y.reversal ≠ .none → exec .trainOrderReverse s = .next u) ∧
        (y.leaving = false → y.reversal = .none → ¬ready → Answers .trainOrderReverse s fun t =>
          t = { u with trains := t.trains } ∧
          (let records := s.trains.records.map fun x =>
             if x.num = n then { x with target := 0, reversal := .pending } else x
           t.trains = { s.trains with records := records.map t.stopIfHeld })) ∧
        (y.leaving = false → y.reversal = .none → ready → Answers .trainOrderReverse s fun t =>
          u.changesTrack t ∧ t.trainNumbers = s.trainNumbers ∧
          (∀ x ∈ t.trains.records, x.num = n → x = turned) ∧
          (∀ c ∈ t.trains.claims, c.train = n →
            c.isGranted = false ∧ turned.exit s.settings = some c.block ∧ s.settings.owns c.block = false) ∧
          (∀ b, y.exit s.settings = some b → (s.blockState b).any (BlockState.heldFor n s.settings.station) = true →
            (∀ x ∈ t.trains.records, x.num = n → x.exit s.settings ≠ some b) → t.blockState b = some .free) ∧
          (s.blockNumbers.Nodup → (∀ c ∈ granted, c.owner ≠ none) → ∃ w : State,
            u.changesTrack w ∧ w.freeCount = s.freeCount ∧
            (w.blocks = s.blocks.map fun r => if held r then { r with state := .free } else r) ∧
            u.sends w
              ((s.blocks.filter held).map (fun r => outMsg 0 .blockState [toByte r.number, 0, 0, toByte s.settings.station]) ++
                granted.map fun c => outMsg (c.owner.getD 0) .release [toByte c.block, toByte n]) ∧
            (let records := (s.trains.records.map fun x => if x.num = n then turned else x).map w.stopIfHeld
             let claims := s.trains.claims.filter fun c => c.train != n
             w.trains = { s.trains with records := records, claims := claims }) ∧
            t = askExit n w)))) ∧
  ∀ (s : State) (n : Nat) (x : Train), s.trains.find n = some x →
    let asked : PClaim :=
      { block := (x.exit s.settings).getD 0, train := n, owner := none, level := 0, state := .queued none none }
    (x.leaving = true ∨ x.target = 0 ∨ x.exit s.settings = none → askExit n s = s) ∧
    (x.leaving = false → 0 < x.target → ∀ e, x.exit s.settings = some e →
      (s.settings.owns e = true → askExit n s = localClaim x e s) ∧
      (s.settings.owns e = false → (∃ c ∈ s.trains.claims, c.train = n) → askExit n s = s) ∧
      (s.settings.owns e = false → (∀ c ∈ s.trains.claims, c.train ≠ n) → askExit n s =
        sendClaims { s with trains := { s.trains with claims := s.trains.claims ++ [asked] } }))

/-- TRAIN_ORDER_REMOVE (R75, R81, R92, R107): without effect for a train without a record. Otherwise the record and its
claim are gone, its local reservations are Free and the blocks it stands on Intruded, each broadcast in ascending block
order (log 32), and a Granted claim is released to its owner. (Distinct block numbers and Held records standing still are
kept: BlockedExactlyInClash, TrainTableKept. The owner of a Granted claim that was never sent is open, log 9.) -/
def Obligations.RemoveOrderTaken : Prop :=
  ∀ (s : State) (m : InMsg) (rest : List InMsg), s.offersHead m rest → m.kind = .trainOrder → byteAt m.body 1 = 4 →
    let n := byteAt m.body 0
    let own := s.settings.station
    let u := s.took rest
    let told (b : Nat) (code : Byte) := outMsg 0 .blockState [toByte b, code, 0, toByte own]
    let held (r : Block) := r.state.heldFor n own
    let taken (r : Block) := r.state.takenBy n
    let granted := s.trains.claims.filter fun c => c.train == n && c.isGranted
    ((n = 0 ∨ 127 < n) → exec .trainOrderRemove s = .next (s.tookMalformed rest)) ∧
    (1 ≤ n → n ≤ 127 →
      (s.hasTrain n = false → exec .trainOrderRemove s = .next u) ∧
      (s.hasTrain n = true → s.blockNumbers.Nodup →
        (∀ x ∈ s.trains.records, s.trainState x = .held → x.present = 0) → (∀ c ∈ granted, c.owner ≠ none) →
        Answers .trainOrderRemove s fun t =>
          u.changesTrack t ∧ t.freeCount = s.freeCount ∧
          (let records := s.trains.records.filter fun x => x.num != n
           let claims := s.trains.claims.filter fun c => c.train != n
           t.trains = { s.trains with records := records, claims := claims }) ∧
          (t.blocks = s.blocks.map fun r =>
            if held r then { r with state := .free } else if taken r then { r with state := .intruded } else r) ∧
          u.sends t ((s.blocks.filter held).map (fun r => told r.number 0) ++
            granted.map (fun c => outMsg (c.owner.getD 0) .release [toByte c.block, toByte n]) ++
            (s.blocks.filter taken).map (fun r => told r.number 3))))

/-- SPEED_STEP (R80 to R83, R86, R87, R94, R95, R102): in ascending train number each record that wants a local exit claims
it; each present speed moves by at most the acceleration step toward the smaller of the target and its state's limit, and
stops there; a Held record stands still, and while Tripped all do; the due reversals are performed (order: log 31; remote
exit: log 30); the view ages; each record that wants a remote exit and has no claim gets one, and claims are sent. The
states are R80's, an exit is held as R81 says, also where a Claim for it is refused (log 37), and a local Claim is
answered by R65's table. No more than 2 claims come to be Sent.
(The premises are kept: TrainTableKept.) -/
def Obligations.SpeedStepLimits : Prop :=
  (∀ s : State, s.active = true →
    let wanted (v : State) (n : Nat) : Option (Train × Nat) := (v.trains.find n).bind fun x =>
      (x.exit v.settings).bind fun e => if !x.leaving && decide (0 < x.target) then some (x, e) else none
    let askLocal (v : State) (n : Nat) : State := match wanted v n with
      | some (x, e) => if v.settings.owns e then localClaim x e v else v
      | none => v
    let askRemote (v : State) (n : Nat) : State := match wanted v n with
      | some (_, e) =>
        if v.settings.owns e || v.trains.claims.any (fun c => c.train == n) then v
        else { v with trains := { v.trains with claims := v.trains.claims ++
          [{ block := e, train := n, owner := none, level := 0, state := .queued none none }] } }
      | none => v
    let near (goal n : Nat) : Nat :=
      let step := s.settings.accStep
      if goal ≤ n + step ∧ n ≤ goal + step then goal else if n < goal then n + step else n - step
    let moves (v : State) (x : Train) : Train :=
      if v.gov.temp = .tripped then { x with present := 0 }
      else match v.trainState x with
        | .leaving | .approaching => { x with present := near (min x.target v.settings.approach) x.present }
        | .running | .stopped => { x with present := near x.target x.present }
        | .held => x
    let turns (v : State) (n : Nat) : State := match v.trains.find n with
      | some x =>
        if x.reversal ≠ .none ∧ x.leaving = false ∧ x.present = 0 ∧ x.enteredFrom = none ∧ v.hasDroppedBlock x = false then
          askLocal (turnRound n v) n
        else v
      | none => v
    let claimed := s.trainNumbers.foldl askLocal s
    let moved : State :=
      { claimed with trains := { claimed.trains with records := claimed.trains.records.map (moves claimed) } }
    let derived : State :=
      { moved with trains := { moved.trains with records := moved.trains.records.map moved.stopIfHeld } }
    let reversed := s.trainNumbers.foldl turns derived
    let aged : State := { reversed with trains := { reversed.trains with
      view := s.trains.view.map fun e => { e with age := min 255 (e.age + 1) } } }
    exec .speedStep s = .next (sendClaims (s.trainNumbers.foldl askRemote aged))) ∧
  (∀ (s : State) (x : Train) (e : Nat) (r : Block), s.block e = some r →
    let v : Reservation :=
      { train := x.num, station := s.settings.station, expiry := s.settings.holdTime * 1000, level := x.present
        dir := x.dir, origin := x.trail.head? }
    let again (w : State) : State := { w with trains := { w.trains with records := w.trains.records.map w.stopIfHeld } }
    let own (w : Reservation) := w.train = x.num ∧ w.station = s.settings.station
    let full := s.hasTrain x.num = false ∧ 4 ≤ s.trains.records.length + s.foreignCount
    (s.isRunning = true → r.coolOff = none → r.state = .free → ¬full →
      s.turns e (.reserved v) (localClaim x e s)) ∧
    (s.isRunning = true → r.coolOff = none → ∀ w, r.state = .reserved w → own w →
      localClaim x e s = again { s with blocks := s.blocks.map fun q =>
        if q.number = e then { q with state := .reserved v } else q }) ∧
    (s.isRunning = false ∨ r.coolOff ≠ none ∨ (r.state = .free ∧ full) ∨
        (r.state ≠ .free ∧ ∀ w, r.state = .reserved w → ¬own w) → localClaim x e s = again s)) ∧
  (∀ (s : State) (x : Train),
    let held : Prop := ∃ e, x.exit s.settings = some e ∧
      ((s.settings.owns e = true ∧ (s.blockState e = some (.occupied x.num) ∨
          ∃ v, s.blockState e = some (.reserved v) ∧ v.train = x.num ∧ v.station = s.settings.station)) ∨
        (s.settings.owns e = false ∧ ∃ c ∈ s.trains.claims, c.train = x.num ∧ c.block = e ∧ c.state = .granted))
    let localExit : Prop := ∃ e, x.exit s.settings = some e ∧ s.settings.owns e = true
    let stands := x.target = 0 ∧ x.present = 0
    (x.trail = [] → x.exit s.settings = none) ∧
    (∀ h trail, x.trail = h :: trail →
      x.exit s.settings = if x.dir = .forward then (s.settings.slot h).rising else (s.settings.slot h).falling) ∧
    (s.exitHeld x = true ↔ held) ∧
    (x.leaving = true → s.trainState x = .leaving) ∧
    (x.leaving = false → x.stopReached = true → ¬held → s.trainState x = .held) ∧
    (x.leaving = false → (x.stopReached = false ∨ held) →
      (stands → s.trainState x = .stopped) ∧
      (¬stands → held → localExit → s.trainState x = .running) ∧
      (¬stands → ¬(held ∧ localExit) → s.trainState x = .approaching)) ∧
    s.stopIfHeld x = if s.trainState x = .held then { x with present := 0 } else x) ∧
  ∀ s : State, s.active = true → s.trainNumbers.Nodup → (s.trains.claims.map fun c => c.train).Nodup →
    (∀ x ∈ s.trains.records, s.trainState x = .held → x.present = 0) →
    Answers .speedStep s fun t =>
      s.changesTrack t ∧ t.trainNumbers = s.trainNumbers ∧
      (s.gov.temp = .tripped → ∀ x ∈ t.trains.records, x.present = 0) ∧
      (∀ x ∈ t.trains.records, t.trainState x = .held → x.present = 0) ∧
      (∀ x ∈ t.trains.records, ∀ y ∈ s.trains.records, y.num = x.num →
        (x.present = 0 ∨
          (x.present ≤ y.present + s.settings.accStep ∧ y.present ≤ x.present + s.settings.accStep)) ∧
        x.present ≤ max y.present y.target ∧
        (y.leaving = true → x.present ≤ max y.present s.settings.approach)) ∧
      (∀ x ∈ t.trains.records, ∀ y ∈ s.trains.records, y.num = x.num → y.leaving = true → s.gov.temp ≠ .tripped →
        let goal := min y.target s.settings.approach
        let step := s.settings.accStep
        x.present = if goal ≤ y.present + step ∧ y.present ≤ goal + step then goal
          else if y.present < goal then y.present + step else y.present - step) ∧
      (t.trains.view = s.trains.view.map fun e => { e with age := min 255 (e.age + 1) }) ∧
      t.sentCount ≤ max 2 s.sentCount

/-- The train table stays in form (R79, R80, R94, R102): at most 4 records, their trails on own blocks Occupied by the
train. That records stand in ascending train number and view entries in ascending block number is the model's order (log
25). -/
def Obligations.TrainTableKept : Prop := KeptByStep State.trainsKept

/-! ### Load governor -/

/-- POWER_ORDER (R110, R63, R155): a code of no level is counted malformed, the present level changes nothing, and any
other level is in force at once: boosters are driven up to its cap, and one that forbids rotaries makes those in Starting
or Running stop with no count left. -/
def Obligations.PowerOrderTaken : Prop :=
  ∀ (s : State) (m : InMsg) (rest : List InMsg), s.offersHead m rest → m.kind = .powerOrder →
    let code := byteAt m.body 0
    let u := s.took rest
    let stops (r : Rotary) : Rotary :=
      if r.state = .starting ∨ r.state = .running then { r with state := .stopping, remaining := 0, stallTimer := none }
      else r
    ((code = 0 ∨ 3 < code) → exec .powerOrder s = .next (s.tookMalformed rest)) ∧
    ∀ p, PowerLevel.ofCode code = some p →
      (s.gov.level = p → exec .powerOrder s = .next u) ∧
      (s.gov.level ≠ p → Answers .powerOrder s fun t =>
        t = { u with gov := { s.gov with level := p }, rotary := t.rotary } ∧
        ((s.settings.desc p).rotaries = true → t.rotary = s.rotary) ∧
        ((s.settings.desc p).rotaries = false →
          t.rotary = { ch0 := stops s.rotary.ch0, ch1 := stops s.rotary.ch1 }) ∧
        ∀ b value dir, t.gov.temp ≠ .tripped → b.coolOff = none → t.driveOf b = some (value, dir) →
          t.booster b = .driven (min value (s.settings.desc p).cap) dir)

/-- GOVERNOR_STEP (R112 to R117, R120, R121, R123): the temperature state follows the reading, the effective budget settles
toward the level's, the working budget is that budget, three quarters of it or nothing, B is the sum of the samples, and
the allowance is what B and Q leave of it. A trip stops every train and darkens every lamp; its end clears the trip mark.
The fault classes Warm and Trip follow the state, and the start of one that the mask does not hold offers a Fault notice
with the temperature read (R114, R185). -/
def Obligations.GovernorStepBudget : Prop :=
  ∀ (s : State) (reading : Int), s.active = true →
    Answers (.governorStep reading) s fun t =>
      let warn : Int := s.settings.warnTemp
      let d := s.settings.desc s.gov.level
      let old := s.gov.temp
      let new := t.gov.temp
      t = { s with gov := t.gov, trains := t.trains, lamps := t.lamps, rotary := t.rotary, faults := t.faults
                   line := { s.line with routine := t.line.routine }
                   counters := { s.counters with outDrop := t.counters.outDrop } } ∧
      new = (if (s.settings.critTemp : Int) ≤ reading then .tripped
        else if old = .normal then (if warn ≤ reading then .warm else .normal)
        else if reading ≤ warn - 10 then .normal else old) ∧
      t.gov.latest = reading ∧ t.gov.level = s.gov.level ∧
      t.gov.effective = (if s.gov.effective ≤ d.budget then d.budget else max d.budget (s.gov.effective - d.settle)) ∧
      t.gov.working = (if new = .normal then t.gov.effective
        else if new = .warm then t.gov.effective * 3 / 4 else 0) ∧
      t.gov.boosterB = (s.blocks.map fun b => b.sample).sum ∧
      (t.gov.allowance : Int) = max 0 ((t.gov.working : Int) - t.gov.boosterB - t.rotaryQ) ∧
      (let stopped := s.trains.records.map fun x => { x with present := 0 }
       t.trains = if old ≠ .tripped ∧ new = .tripped then { s.trains with records := stopped } else s.trains) ∧
      (let dark := s.lamps.channels.map fun x => { x with present := 0, wanted := 0, duty := 0 }
       t.lamps = if old ≠ .tripped ∧ new = .tripped then { s.lamps with channels := dark, tripMark := true }
         else if old = .tripped ∧ new ≠ .tripped then { s.lamps with tripMark := false } else s.lamps) ∧
      (old = new → t.faults = s.faults) ∧
      (let notice (code : Byte) := outMsg 0 .faultNotice [code, toByte (reading.toNat / 256), toByte reading.toNat]
       let told := if old ≠ .warm ∧ new = .warm ∧ s.settings.mask.warm = false then offer (notice 3) s
         else if old ≠ .tripped ∧ new = .tripped ∧ s.settings.mask.trip = false then offer (notice 4) s
         else s
       t.line = told.line ∧ t.counters = told.counters) ∧
      (old ≠ new → (new = .warm → t.faults.active.warm = true ∧ t.faults.fresh.warm = true) ∧
        (new = .tripped → t.faults.active.trip = true ∧ t.faults.fresh.trip = true) ∧
        (old = .warm → t.faults.active.warm = false) ∧ (old = .tripped → t.faults.active.trip = false))

/-- GOVERNOR_STEP at the rotary channels (R117, R118, R121, R123, R151, R156, R157): a trip halts the channels in motion,
its end leaves Halted ones Held; then channel 0 and after it channel 1 is admitted if it is Held, the level permits
rotaries, the station is not Tripped, and its run current fits into the working budget less B and Q. -/
def Obligations.GovernorAdmitsRotaries : Prop :=
  ∀ (s : State) (reading : Int), s.active = true →
    Answers (.governorStep reading) s fun t =>
      let halts (r : Rotary) : Rotary :=
        if r.state = .starting ∨ r.state = .running then
          { r with state := .halted, drive := 0, stallTimer := none, parkOnly := false }
        else if r.state = .stopping ∨ r.state = .seeking then
          { r with state := .halted, drive := 0, stallTimer := none, parkOnly := true, remaining := 0 }
        else r
      let waits (r : Rotary) : Rotary := if r.state = .halted then { r with state := .held, heldTimer := none } else r
      let handed (r : Rotary) : Rotary :=
        if s.gov.temp ≠ .tripped ∧ t.gov.temp = .tripped then halts r
        else if s.gov.temp = .tripped ∧ t.gov.temp ≠ .tripped then waits r else r
      let moves (cfg : RotCfg) (r : Rotary) : Rotary :=
        if r.parkOnly then { r with state := .seeking, parkOnly := false, drive := 0, heldTimer := none
                                    stallTimer := some (cfg.stallTimeout * 1000) }
        else { r with state := .starting, drive := 0, heldTimer := none }
      let fits (cfg : RotCfg) (r : Rotary) (q : Nat) : Prop :=
        r.state = .held ∧ (s.settings.desc s.gov.level).rotaries = true ∧ t.gov.temp ≠ .tripped ∧
          (cfg.runCurrent : Int) ≤ (t.gov.working : Int) - t.gov.boosterB - q
      let c0 := s.settings.rot0
      let c1 := s.settings.rot1
      let r0 := handed s.rotary.ch0
      let r1 := handed s.rotary.ch1
      (fits c0 r0 (r0.reserve c0 + r1.reserve c1) → t.rotary.ch0 = moves c0 r0) ∧
      (¬fits c0 r0 (r0.reserve c0 + r1.reserve c1) → t.rotary.ch0 = r0) ∧
      (fits c1 r1 (t.rotary.ch0.reserve c0 + r1.reserve c1) → t.rotary.ch1 = moves c1 r1) ∧
      (¬fits c1 r1 (t.rotary.ch0.reserve c0 + r1.reserve c1) → t.rotary.ch1 = r1) ∧
      ∀ (cfg : RotCfg) (r : Rotary), r.reserve cfg = if cfg.configured = true ∧ (r.state = .starting ∨ r.state = .running ∨
        r.state = .stopping ∨ r.state = .seeking) then cfg.runCurrent else 0

/-- While Tripped every lamp is dark, every booster of the station at work senses or is in CoolOff, every rotary rests and
the allowance is 0 (R63, R122, R141, R142). -/
def Obligations.TripKeepsQuiet : Prop := KeptByStep State.quietInTrip

/-! ### Lamp engine -/

/-- LAMP_ORDER_SET and LAMP_ORDER_CLEAR (R137, R138, R139, R198): a code of no group is counted malformed; set gives the group an override with the level, 1000 at most, and the until-time, 1439 at most and none for 65,535, last
seen now; clear removes the override; nothing else changes. -/
def Obligations.LampOrdersTaken : Prop :=
  (∀ (s : State) (m : InMsg) (rest : List InMsg), s.offersHead m rest → m.kind = .lampOrder →
    let group := byteAt m.body 0
    let action := byteAt m.body 1
    let level := min 1000 (num2 m.body 2)
    let until' := num2 m.body 4
    let given (g : Group) (o : Option Override) : State :=
      { s.took rest with lamps := s.lamps.setGroup g { s.lamps.group g with override := o } }
    (3 < group → (action = 1 → exec .lampOrderSet s = .next (s.tookMalformed rest)) ∧
      (action = 2 → exec .lampOrderClear s = .next (s.tookMalformed rest))) ∧
    ∀ g, Group.ofCode group = some g →
      (action = 1 → exec .lampOrderSet s = .next (given g (some
        { level := level
          ending := if until' = 65535 then none else some (min 1439 until', s.clock.time) }))) ∧
      (action = 2 → exec .lampOrderClear s = .next (given g none))) ∧
  ∀ (l : Lamps) (g h : Group) (x : LampGroup), (l.setGroup g x).group h = if h = g then x else l.group h

/-- LAMP_STEP (R128, R130 to R135): an override whose until point lies in the forward interval from its last seen time to
now goes, any other with an until-time is last seen now; the latch of a Dusk switch group follows the thresholds; each
configured channel fades by at most its group's fade step toward its override's level or the level its group's mode asks
for, and stays dark under the trip mark; its wanted duty is the square of that level over 1000, and its duty the wanted
one scaled so that all lamps together draw no more than the allowance. -/
def Obligations.LampStepWithinAllowance : Prop :=
  (∀ s : State, s.active = true → s.lamps.channels.length = s.settings.lamps.length →
    Answers .lampStep s fun t =>
      let draw (f : LampChannel → Nat) : Nat := (List.zipWith (fun (c : LampCfg) (y : LampChannel) =>
        if c.configured then f y * c.fullScale else 0) s.settings.lamps t.lamps.channels).sum
      let demand := draw fun y => y.wanted
      let scale := if demand = 0 then 1024 else min 1024 (s.gov.allowance * 1000 * 1024 / demand)
      let now := s.clock.time
      let light := s.clock.daylight
      let watched (o : Override) : Option Override := match o.ending with
        | none => some o
        | some (until', seen) =>
          if inForward seen now (until' * 60000) then none else some { o with ending := some (until', now) }
      let latched (c : GroupCfg) (was : Bool) : Bool := match c.mode with
        | .duskSwitch => if light < c.onThreshold then true else if c.offThreshold < light then false else was
        | .daylight | .night | .fixed | .off => false
      let asked (c : GroupCfg) (x : LampGroup) : Nat := match x.override with
        | some o => o.level
        | none => match c.mode with
          | .daylight => light * c.gain / 1000
          | .night => (1000 - light) * c.gain / 1000
          | .duskSwitch => if x.latch then c.onLevel else 0
          | .fixed => c.onLevel
          | .off => 0
      t = { s with lamps := t.lamps } ∧ t.lamps.tripMark = s.lamps.tripMark ∧
      (∀ g, t.lamps.group g =
        { override := (s.lamps.group g).override.bind watched
          latch := latched (s.settings.group g) (s.lamps.group g).latch }) ∧
      (∀ (i : Nat) (c : LampCfg) (x y : LampChannel), s.settings.lamps[i]? = some c → s.lamps.channels[i]? = some x →
        t.lamps.channels[i]? = some y →
        (c.configured = false → y = { requested := 0, present := 0, wanted := 0, duty := 0 }) ∧
        (c.configured = true →
          let want := min 1000 (asked (s.settings.group c.group) (t.lamps.group c.group))
          let fade := (s.settings.group c.group).fade
          y.requested = want ∧
          y.present = (if s.lamps.tripMark then 0
            else if want ≤ x.present + fade ∧ x.present ≤ want + fade then want
            else if x.present < want then x.present + fade else x.present - fade) ∧
          y.wanted = y.present * y.present / 1000 ∧ y.duty = y.wanted * scale / 1024)) ∧
      t.lamps.channels.length = s.lamps.channels.length ∧ t.lampOutputs = t.lamps.channels.map (fun y => y.duty) ∧
      draw (fun y => y.duty) ≤ 1000 * s.gov.allowance) ∧
  (∀ seen now point : Nat, inForward seen now point = true ↔
    (seen ≤ now ∧ seen < point ∧ point ≤ now) ∨ (now < seen ∧ (seen < point ∨ point ≤ now))) ∧
  ∀ (l : Lamps) (now : Nat) (g : Group), (l.watchOverrides now).group g = { l.group g with
    override := match (l.group g).override with
      | none => none
      | some o => match o.ending with
        | none => some o
        | some (until', seen) =>
          if inForward seen now (until' * 60000) then none else some { o with ending := some (until', now) } }

/-! ### Rotary unit -/

/-- ROTARY_ORDER_RUN, ROTARY_ORDER_STOP, ROTARY_ORDER_CLEAR (R146 to R149, R119, R154): a code of no channel is counted malformed;
a request to an unconfigured channel or a Listening station is ignored; any other is taken by the state
of its channel. The last Stalled channel cleared ends Stall. -/
def Obligations.RotaryOrdersTaken : Prop :=
  ∀ (s : State) (m : InMsg) (rest : List InMsg), s.offersHead m rest → m.kind = .rotaryOrder →
    let action := byteAt m.body 1
    let n := min 255 (num2 m.body 2)
    let u := s.took rest
    (1 < byteAt m.body 0 → (action = 1 → exec .rotaryOrderRun s = .next (s.tookMalformed rest)) ∧
      (action = 2 → exec .rotaryOrderStop s = .next (s.tookMalformed rest)) ∧
      (action = 3 → exec .rotaryOrderClear s = .next (s.tookMalformed rest))) ∧
    ∀ ch, chanOfCode (byteAt m.body 0) = some ch →
      let r := s.rotary.get ch
      let becomes (c : Instr) (r' : Rotary) := exec c s = .next { u with rotary := s.rotary.set ch r' }
      let allowed := (s.settings.desc s.gov.level).rotaries = true ∧ s.gov.temp ≠ .tripped
      ((s.isRunning = false ∨ (s.settings.rot ch).configured = false) →
        (action = 1 → exec .rotaryOrderRun s = .next u) ∧ (action = 2 → exec .rotaryOrderStop s = .next u) ∧
        (action = 3 → exec .rotaryOrderClear s = .next u)) ∧
      (s.isRunning = true → (s.settings.rot ch).configured = true →
        (action = 1 →
          (r.state = .parked → becomes .rotaryOrderRun
            { r with state := .held, remaining := n, parkOnly := false, heldTimer := some 30000 }) ∧
          (r.state = .held → r.heldTimer ≠ none → becomes .rotaryOrderRun
            { r with remaining := n, heldTimer := some 30000 }) ∧
          ((r.state = .held ∧ r.heldTimer = none) ∨ r.state = .halted → becomes .rotaryOrderRun
            { r with remaining := n, parkOnly := false }) ∧
          (r.state = .starting ∨ r.state = .running → becomes .rotaryOrderRun { r with remaining := n }) ∧
          (r.state = .stopping ∨ r.state = .seeking →
            (allowed → becomes .rotaryOrderRun { r with state := .starting, remaining := n, stallTimer := none }) ∧
            (¬allowed → becomes .rotaryOrderRun
              { state := .held, remaining := n, drive := 0, stallTimer := none, heldTimer := none, parkOnly := false })) ∧
          (r.state = .stalled → exec .rotaryOrderRun s = .next (raiseFault .stall (chanNumber ch) u))) ∧
        (action = 2 →
          (r.state = .held → r.heldTimer ≠ none → becomes .rotaryOrderStop
            { r with state := .parked, remaining := 0, heldTimer := none }) ∧
          ((r.state = .held ∧ r.heldTimer = none ∧ r.parkOnly = false) ∨ r.state = .halted → becomes .rotaryOrderStop
            { r with parkOnly := true, remaining := 0 }) ∧
          (r.state = .starting ∨ r.state = .running → becomes .rotaryOrderStop
            { r with state := .stopping, remaining := 0, stallTimer := none }) ∧
          ((r.state = .held ∧ r.heldTimer = none ∧ r.parkOnly = true) ∨ r.state = .parked ∨ r.state = .stopping ∨
            r.state = .seeking ∨ r.state = .stalled → exec .rotaryOrderStop s = .next u)) ∧
        (action = 3 →
          (let home := { r with state := .parked, drive := 0, remaining := 0, parkOnly := false }
           r.state = .stalled → Answers .rotaryOrderClear s fun t =>
            t = { u with faults := t.faults, rotary := s.rotary.set ch home } ∧
            t.faults = if t.rotary.ch0.state = .stalled ∨ t.rotary.ch1.state = .stalled then s.faults
              else { s.faults with active := s.faults.active.set .stall false }) ∧
          (r.state ≠ .stalled → exec .rotaryOrderClear s = .next u)))

/-- ROTARY_STEP and INDEX_PULSE (R144, R145, R152, R153, R154): the drive moves by at most the ramp step toward the run
level in Starting and the creep level in Stopping and Seeking, and is 0 at rest; reaching it ends Starting and Stopping
and starts the stall timer. A pulse in Running counts a revolution down and starts the stall timer again, the last one
stops the piece; a pulse in Seeking parks it; any other pulse does nothing. -/
def Obligations.RotaryStepsAndPulses : Prop :=
  (∀ s : State, s.active = true →
    let near (goal step n : Nat) : Nat :=
      if goal ≤ n + step ∧ n ≤ goal + step then goal else if n < goal then n + step else n - step
    let after (c : RotCfg) (r : Rotary) : Rotary :=
      let up := near c.runLevel c.ramp r.drive
      let down := near c.creepLevel c.ramp r.drive
      let timer := some (c.stallTimeout * 1000)
      if c.configured = false then r
      else if r.state = .starting then
        if up = c.runLevel then { r with state := .running, drive := up, stallTimer := timer } else { r with drive := up }
      else if r.state = .stopping then
        if down = c.creepLevel then { r with state := .seeking, drive := down, stallTimer := timer }
        else { r with drive := down }
      else if r.state = .seeking then { r with drive := down }
      else if r.state = .running then { r with drive := c.runLevel }
      else { r with drive := 0 }
    exec .rotaryStep s = .next { s with rotary :=
      { ch0 := after s.settings.rot0 s.rotary.ch0, ch1 := after s.settings.rot1 s.rotary.ch1 } }) ∧
  ∀ (s : State) (ch : Chan), s.active = true →
    let r := s.rotary.get ch
    let timer := some ((s.settings.rot ch).stallTimeout * 1000)
    let becomes (r' : Rotary) := exec (.indexPulse ch) s = .next { s with rotary := s.rotary.set ch r' }
    ((s.settings.rot ch).configured = false → exec (.indexPulse ch) s = .next s) ∧
    ((s.settings.rot ch).configured = true →
      (r.state = .running → 1 < r.remaining → becomes { r with remaining := r.remaining - 1, stallTimer := timer }) ∧
      (r.state = .running → r.remaining = 1 → becomes
        { r with remaining := 0, state := .stopping, stallTimer := none }) ∧
      (r.state = .running → r.remaining = 0 → becomes { r with stallTimer := timer }) ∧
      (r.state = .seeking → becomes { r with drive := 0, state := .parked, stallTimer := none }) ∧
      (r.state ≠ .running → r.state ≠ .seeking → exec (.indexPulse ch) s = .next s))

/-- HELD_TIMER_EXPIRY and STALL_TIMER_EXPIRY (R150, R154): a Held channel whose Held timer runs out is Parked with
HeldAbandoned raised; a channel whose stall timer runs out is Stalled, its drive 0, with Stall raised; a timer that does
not run does not run out (log 2). -/
def Obligations.RotaryTimersRunOut : Prop :=
  ∀ (s : State) (ch : Chan), s.active = true →
    let r := s.rotary.get ch
    let set (r' : Rotary) : State := { s with rotary := s.rotary.set ch r' }
    (r.state = .held → r.heldTimer ≠ none →
      exec (.heldTimerExpiry ch) s = .next (raiseFault .heldAbandoned (chanNumber ch)
        (set { r with state := .parked, remaining := 0, heldTimer := none }))) ∧
    (r.state ≠ .held ∨ r.heldTimer = none → exec (.heldTimerExpiry ch) s = .next s) ∧
    (r.stallTimer ≠ none →
      exec (.stallTimerExpiry ch) s = .next (raiseFault .stall (chanNumber ch)
        (set { r with state := .stalled, drive := 0, remaining := 0, parkOnly := false, stallTimer := none }))) ∧
    (r.stallTimer = none → exec (.stallTimerExpiry ch) s = .next s)

/-- The rotary channels stay in form (R145, R147, R148, R150, R151, R154). -/
def Obligations.RotaryChannelsKept : Prop := KeptByStep State.rotariesKept

/-! ### Cue unit -/

/-- CUE_LOAD and CUE_CLEAR (R165, R169, R170, R171): pending own events are taken first (log 17). A malformed load is counted; one
that would take the list above 32 is refused with ListFull; any other is inserted whole, each cue behind those of its
minute, and the index is that of the first cue whose minute is still to come. A clear empties the list. A load is well
formed when its count is 1 to 4, its length fits, no minute is above 1439 and every action field names one of the ten
actions, whose arguments are clamped (R160, R197). -/
def Obligations.CueListTaken : Prop :=
  (∀ (s : State) (m : InMsg) (rest : List InMsg), s.offersHead m rest →
    let u := settleOwn (s.took rest)
    (s.cues.own = [] → u = s.took rest) ∧
    (m.kind = .cueClear → exec .cueClear s = .next { u with cues := { u.cues with cues := [], index := 0 } }) ∧
    (m.kind = .cueLoad → cueLoadOf m.body = none →
      exec .cueLoad s = .next { u with counters := u.counters.bump .malformed }) ∧
    (m.kind = .cueLoad → ∀ load, cueLoadOf m.body = some load →
      1 ≤ load.length ∧ load.length ≤ 4 ∧ (∀ c ∈ load, c.minute ≤ 1439) ∧
      (32 < u.cues.cues.length + load.length →
        exec .cueLoad s = .next (raiseFault .listFull u.cues.cues.length u)) ∧
      (u.cues.cues.length + load.length ≤ 32 → (u.cues.cues.map fun c => c.minute).Pairwise (· ≤ ·) →
        Answers .cueLoad s fun t =>
          t = { u with cues := { u.cues with cues := t.cues.cues, index := t.cues.index } } ∧
          (t.cues.cues.map fun c => c.minute).Pairwise (· ≤ ·) ∧
          (∀ minute, t.cues.cues.filter (fun c => c.minute == minute) =
            u.cues.cues.filter (fun c => c.minute == minute) ++ load.filter (fun c => c.minute == minute)) ∧
          t.cues.index = (t.cues.cues.filter fun c => c.minute ≤ u.cues.cueTime / 60000).length))) ∧
  (∀ (body : List Byte) (load : List Cue), cueLoadOf body = some load ↔
    1 ≤ byteAt body 0 ∧ byteAt body 0 ≤ 4 ∧ body.length = 1 + 5 * byteAt body 0 ∧ load.length = byteAt body 0 ∧
      ∀ i, i < byteAt body 0 → num2 body (1 + 5 * i) ≤ 1439 ∧
        (load[i]?.map fun c => (c.minute, some c.action)) =
          some (num2 body (1 + 5 * i), Action.ofField (num3 body (3 + 5 * i)))) ∧
  ∀ code args : Nat, code < 16 → args < 1048576 →
    let action := Action.ofField (code * 1048576 + args)
    let level := min 1000 (2 * (args / 2048 % 512))
    let until' := args % 2048
    let device := args / 8192 % 128
    let event := args % 2048
    (∀ g, Group.ofCode code = some g →
      action = some (.lampSet g level (if until' = 2047 then none else some (min 1439 until')))) ∧
    (∀ g, 4 ≤ code → Group.ofCode (code - 4) = some g → action = some (.lampClear g)) ∧
    (code = 8 → action = if args % 4 = 0 then none else if args % 4 = 1 then some (.power .show)
      else if args % 4 = 2 then some (.power .economy) else some (.power .rest)) ∧
    (9 ≤ code → code ≤ 11 → 1 < device → action = none) ∧
    (∀ ch, chanOfCode device = some ch →
      (code = 9 → action = some (.rotaryRun ch (min 255 (args % 1024)))) ∧
      (code = 10 → action = some (.rotaryStop ch)) ∧ (code = 11 → action = some (.rotaryClear ch))) ∧
    (12 ≤ code → code ≤ 14 → device = 0 → action = none) ∧
    (device ≠ 0 → (code = 12 → action = some (.trainSpeed device (min 1000 (args % 2048)))) ∧
      (code = 13 → action = some (.trainStop device)) ∧ (code = 14 → action = some (.trainReverse device))) ∧
    (code = 15 → action = if event = 0 ∨ 255 < event then none else some (.showEvent event))

/-- SHOW_EVENT and OWN_EVENT (R165, R173 to R176; pending own events are taken before a message, log 17): a malformed event is counted, one of the own origin discarded. Any other
makes each enabled listen entry of its code and origin perform its action, in entry order, a Show event action making an
own event of the next hop while the hop is below 3; it is relayed once with its hop raised if a matching entry has the
relay mark and the hop is below 3. The oldest own event is offered to the line and matched, in either order; with none
pending OWN_EVENT has no effect (log 2). -/
def Obligations.ShowEventsTaken : Prop :=
  let hears (l : ListenEntry) (e : ShowEvent) : Bool :=
    l.enabled && l.code == e.code && (l.origin == 0 || l.origin == e.origin)
  let matched (e : ShowEvent) (u : State) : State :=
    ((u.settings.listen.filter fun l => hears l e).filterMap fun l => l.action).foldl
      (fun v a => perform (if e.hop < 3 then some (e.hop + 1) else none) a v) u
  let told (e : ShowEvent) := outMsg 0 .showEvent [toByte e.code, toByte e.origin, toByte e.hop]
  (∀ (s : State) (m : InMsg) (rest : List InMsg), s.offersHead m rest → m.kind = .showEvent →
    let e : ShowEvent := { code := byteAt m.body 0, origin := byteAt m.body 1, hop := byteAt m.body 2 }
    let ok := 1 ≤ e.code ∧ 1 ≤ e.origin ∧ e.origin ≤ 63 ∧ e.hop ≤ 3
    let u := settleOwn (s.took rest)
    (¬ok → exec .showEvent s = .next { u with counters := u.counters.bump .malformed }) ∧
    (ok → e.origin = s.settings.station → exec .showEvent s = .next u) ∧
    (ok → e.origin ≠ s.settings.station →
      exec .showEvent s = .next
        (if (s.settings.listen.any fun l => hears l e && l.relay) && decide (e.hop < 3) then
          offer (told { e with hop := e.hop + 1 }) (matched e u)
        else matched e u))) ∧
  ∀ s : State, s.active = true →
    (s.cues.own = [] → exec .ownEvent s = .next s) ∧
    ∀ e rest, s.cues.own = e :: rest →
      let u : State := { s with cues := { s.cues with own := rest }, freeCount := s.freeCount + 1 }
      exec .ownEvent s = .next (matched e (offer (told e) u)) ∨ exec .ownEvent s = .next (offer (told e) (matched e u))

/-- What an action does (R160, R163, R164, R165, R175): lamp, power and rotary actions do what the orders of their kind
do, by the operations that those orders are; a train action does what the Train order does here and offers it to all
stations; a Show event action joins the
pending own events with origin the own number, or counts in Missed when 8 are pending. -/
def Obligations.ActionsPerformed : Prop :=
  (∀ (s : State) (m : InMsg) (rest : List InMsg), s.offersHead m rest →
    let u := s.took rest
    let n := byteAt m.body 0
    let action := byteAt m.body 1
    (m.kind = .powerOrder → ∀ p, PowerLevel.ofCode n = some p → exec .powerOrder s = .next (setLevel p u)) ∧
    (m.kind = .rotaryOrder → ∀ c, chanOfCode n = some c →
      (action = 1 → exec .rotaryOrderRun s = .next (rotaryRun c (min 255 (num2 m.body 2)) u)) ∧
      (action = 2 → exec .rotaryOrderStop s = .next (rotaryStop c u)) ∧
      (action = 3 → exec .rotaryOrderClear s = .next (rotaryClear c u))) ∧
    (m.kind = .trainOrder → 1 ≤ n → n ≤ 127 →
      (action = 1 → exec .trainOrderSpeed s = .next (orderSpeed n (num2 m.body 2) u)) ∧
      (action = 2 → exec .trainOrderStop s = .next (orderStop n u)) ∧
      (action = 3 → exec .trainOrderReverse s = .next (orderReverse n u)))) ∧
  ∀ (s : State) (hop : Option Nat),
    (let given (g : Group) (o : Option Override) : State :=
       { s with lamps := s.lamps.setGroup g { s.lamps.group g with override := o } }
     (∀ g level until', perform hop (.lampSet g level until') s =
       given g (some { level := level, ending := until'.map fun v => (v, s.clock.time) })) ∧
     ∀ g, perform hop (.lampClear g) s = given g none) ∧
    (∀ p, perform hop (.power p) s = setLevel p s) ∧
    (∀ c n, perform hop (.rotaryRun c n) s = rotaryRun c n s) ∧
    (∀ c, perform hop (.rotaryStop c) s = rotaryStop c s ∧ perform hop (.rotaryClear c) s = rotaryClear c s) ∧
    (let u : State := { s with freeCount := s.freeCount + 1 }
     let order (n : Nat) (code : Byte) (v : Nat) := outMsg 0 .trainOrder [toByte n, code, toByte (v / 256), toByte v]
     let both (a : Action) (msg : OutMsg) (local' : State → State) :=
       perform hop a s = local' (offer msg u) ∨ perform hop a s = offer msg (local' u)
     (∀ n v, both (.trainSpeed n v) (order n 1 v) (orderSpeed n v)) ∧
     (∀ n, both (.trainStop n) (order n 2 0) (orderStop n)) ∧
     (∀ n, both (.trainReverse n) (order n 3 0) (orderReverse n))) ∧
    (∀ code, hop = none → perform hop (.showEvent code) s = s) ∧
    (∀ code h, hop = some h → s.cues.own.length < 8 →
      perform hop (.showEvent code) s = { s with cues := { s.cues with
        own := s.cues.own ++ [{ code := code, origin := s.settings.station, hop := h }] } }) ∧
    (∀ code h, hop = some h → 8 ≤ s.cues.own.length →
      perform hop (.showEvent code) s = { s with cues := { s.cues with missed := min 255 (s.cues.missed + 1) } })

/-- The cue list stays in form (R159, R165, R167, R170). -/
def Obligations.CueListKept : Prop := KeptByStep State.cuesKept

/-! ### Report unit -/

/-- The six QUERY rows (R178 to R182, R24): no answer goes out in Listening or to a Query for all stations; any other Query brings one Report to its source, its contents fixed before what the Query
clears is cleared: Status the new flags and the momentary active ones, Counters with option 1 all counters and marks. -/
def Obligations.QueriesAnswered : Prop :=
  ∀ (s : State) (m : InMsg) (rest : List InMsg), s.offersHead m rest → m.kind = .query →
    let kind := byteAt m.body 0
    let option := byteAt m.body 1
    let u := s.took rest
    let report (body : List Byte) := outMsg m.src .report body
    let rows := [Instr.queryStatus, .queryBlocks, .queryTrains, .queryCounters, .queryCues, .queryPeers]
    (s.isRunning = false ∨ m.dest = 0 → ∀ c, rows[kind - 1]? = some c → 1 ≤ kind → exec c s = .next u) ∧
    (s.isRunning = true → m.dest ≠ 0 →
      (kind = 1 →
        let flags (f : FaultSet) := bytes2 (bitsNat [f.lineStuck, f.clash, f.warm, f.trip, f.stall, f.short, f.intrusion,
          f.heldAbandoned, f.listFull])
        let body := [toByte 1, toByte 4, toByte s.line.cond.code, toByte s.clock.phase.code] ++ bytes4 s.clock.time ++
          [toByte s.gov.level.code, toByte s.gov.temp.code] ++ flags s.faults.active ++ flags s.faults.fresh ++
          [toByte (bitsNat [s.clock.rateMismatch, s.clock.jumps, s.peers.overflow]), toByte s.cues.missed]
        exec .queryStatus s = .next (offer (report body) { u with faults :=
          { active := { s.faults.active with short := false, intrusion := false, heldAbandoned := false
                                             listFull := false }
            fresh := .empty } })) ∧
      (kind = 2 →
        let items := s.blocks.map fun r => [toByte r.state.reported.code, toByte r.state.train]
        exec .queryBlocks s = .next (offer
          (report ([toByte 2, toByte s.settings.winBase, toByte s.settings.winSize] ++ items.flatten)) u)) ∧
      (kind = 3 →
        let head := [toByte 3, toByte s.trains.records.length, toByte s.trains.view.length, toByte option]
        (∀ x, option < 4 → s.trains.records[option]? = some x →
          let state : Byte := match s.trainState x with
            | .running => 1
            | .approaching => 2
            | .held => 3
            | .stopped => 4
            | .leaving => 5
          let pending : List Byte := match x.reversal with
            | .none => [0, 0, 0]
            | .pending => [1, 0, 0]
            | .resume v => [2, toByte (v / 256), toByte v]
          let claim : List Byte := match s.trains.claims.find? fun c => c.train == x.num with
            | none => [0, 0, 0]
            | some c => [match c.state with
                | .queued _ _ => 1
                | .sent _ _ => 2
                | .granted => 3, toByte c.block, toByte (c.owner.getD 0)]
          exec .queryTrains s = .next (offer (report (head ++
            [toByte x.num, if x.dir = .forward then 1 else 2, state, toByte (x.target / 256), toByte x.target,
              toByte (x.present / 256), toByte x.present, toByte x.trail.length, toByte (x.trail.getD 0 0),
              toByte (x.trail.getD 1 0), toByte (x.trail.getD 2 0), if x.enteredFrom = none then 0 else 1,
              toByte (x.enteredFrom.getD 0)] ++ pending ++ claim)) u)) ∧
        (∀ e, 4 ≤ option → option < 20 → s.trains.view[option - 4]? = some e →
          exec .queryTrains s = .next (offer (report (head ++
            [toByte e.block, toByte e.state.code, toByte e.train, toByte e.reporter, toByte e.age])) u)) ∧
        ((option < 4 → s.trains.records.length ≤ option) → (4 ≤ option → option < 20 →
            s.trains.view.length ≤ option - 4) →
          exec .queryTrains s = .next (offer (report head) u))) ∧
      (kind = 4 →
        let marks := bitsNat (s.counters.list.map fun c => c.saturated)
        let body := toByte 4 :: (s.counters.list.map fun c => toByte c.count) ++ bytes2 marks
        exec .queryCounters s = .next (offer (report body)
          (if option = 1 then { u with counters := .zero } else u))) ∧
      (kind = 5 →
        exec .queryCues s = .next (offer
          (report [toByte 5, toByte s.cues.cues.length, toByte s.cues.index]) u)) ∧
      (kind = 6 →
        exec .queryPeers s = .next (offer
          (report [toByte 6, toByte s.peers.entries.length,
            toByte (s.peers.entries.filter fun p => p.fresh).length]) u)))

/-- REPORT and FAULT_NOTICE (R11, R178): those of other stations are discarded without effect. Two of the model's choices
with them: a command whose event cannot occur has no effect (log 2) - a row that takes a message without a message of its
kind at the head of the queue, the ends of a transaction, a wait, a window, an attempt or a break that is not there; and a
message whose order, action or report kind is none of those listed is malformed (R104, R137, R146, R178) whichever row of
its kind takes it (log 10). -/
def Obligations.ReportsAndStrayCommands : Prop :=
  (∀ (s : State) (m : InMsg) (rest : List InMsg), s.offersHead m rest →
    (m.kind = .report → exec .report s = .next (s.took rest)) ∧
    (m.kind = .faultNotice → exec .faultNotice s = .next (s.took rest))) ∧
  (∀ (c : Instr) (k : Kind) (s : State), kindTaken c = some k →
    (s.active = false ∨ ∀ m rest, s.line.inbound = m :: rest → m.kind ≠ k) → exec c s = .next s) ∧
  (∀ s : State,
    (s.loader.station ≠ .loading ∨ s.loader.port ≠ .reading →
      (∀ cause, exec (.memoryTransactionFailure cause) s = .next s) ∧
      ∀ record, exec (.configurationReadComplete record) s = .next s) ∧
    (s.loader.station ≠ .loading ∨ s.loader.port ≠ .waiting → exec .memoryRetryWaitEnd s = .next s) ∧
    (s.loader.station ≠ .listening → exec .listeningWindowEnd s = .next s) ∧
    (s.line.tx.isSending = false → exec .collision s = .next s ∧ exec .messageSent s = .next s) ∧
    (s.line.tx ≠ .breaking → exec .breakEnd s = .next s)) ∧
  ∀ (s : State) (m : InMsg) (rest : List InMsg), s.offersHead m rest →
    let malformed (c : Instr) := exec c s = .next (s.tookMalformed rest)
    let code := byteAt m.body 1
    (m.kind = .trainOrder → code = 0 ∨ 4 < code →
      malformed .trainOrderSpeed ∧ malformed .trainOrderStop ∧ malformed .trainOrderReverse ∧
        malformed .trainOrderRemove) ∧
    (m.kind = .lampOrder → code = 0 ∨ 2 < code → malformed .lampOrderSet ∧ malformed .lampOrderClear) ∧
    (m.kind = .rotaryOrder → code = 0 ∨ 3 < code →
      malformed .rotaryOrderRun ∧ malformed .rotaryOrderStop ∧ malformed .rotaryOrderClear) ∧
    (m.kind = .query → byteAt m.body 0 = 0 ∨ 6 < byteAt m.body 0 →
      malformed .queryStatus ∧ malformed .queryBlocks ∧ malformed .queryTrains ∧ malformed .queryCounters ∧
        malformed .queryCues ∧ malformed .queryPeers)
end

