-- ==== Sys2Proof/Laws/State.lean ====
section
/-! SUPPORT. What each named update of the state leaves as it is and what it changes, field by field: every law holds by
`rfl`, so that no later proof unfolds an update. -/

namespace Sys2Proof.Machine

variable (s : State)

/-! ### `State.withPending` -/

@[simp] theorem State.withPending_loader (cs : List Instr) : (s.withPending cs).loader = s.loader := rfl
@[simp] theorem State.withPending_settings (cs : List Instr) : (s.withPending cs).settings = s.settings := rfl
@[simp] theorem State.withPending_line (cs : List Instr) : (s.withPending cs).line = s.line := rfl
@[simp] theorem State.withPending_counters (cs : List Instr) : (s.withPending cs).counters = s.counters := rfl
@[simp] theorem State.withPending_peers (cs : List Instr) : (s.withPending cs).peers = s.peers := rfl
@[simp] theorem State.withPending_clock (cs : List Instr) : (s.withPending cs).clock = s.clock := rfl
@[simp] theorem State.withPending_blocks (cs : List Instr) : (s.withPending cs).blocks = s.blocks := rfl
@[simp] theorem State.withPending_trains (cs : List Instr) : (s.withPending cs).trains = s.trains := rfl
@[simp] theorem State.withPending_gov (cs : List Instr) : (s.withPending cs).gov = s.gov := rfl
@[simp] theorem State.withPending_lamps (cs : List Instr) : (s.withPending cs).lamps = s.lamps := rfl
@[simp] theorem State.withPending_rotary (cs : List Instr) : (s.withPending cs).rotary = s.rotary := rfl
@[simp] theorem State.withPending_cues (cs : List Instr) : (s.withPending cs).cues = s.cues := rfl
@[simp] theorem State.withPending_faults (cs : List Instr) : (s.withPending cs).faults = s.faults := rfl
@[simp] theorem State.withPending_freeCount (cs : List Instr) : (s.withPending cs).freeCount = s.freeCount := rfl
@[simp] theorem State.withPending_pending (cs : List Instr) : (s.withPending cs).pending = cs := rfl
@[simp] theorem State.withPending_isRunning (cs : List Instr) : (s.withPending cs).isRunning = s.isRunning := rfl
@[simp] theorem State.withPending_active (cs : List Instr) : (s.withPending cs).active = s.active := rfl

/-! ### `count` -/

@[simp] theorem count_loader (c : CounterName) : (count c s).loader = s.loader := rfl
@[simp] theorem count_settings (c : CounterName) : (count c s).settings = s.settings := rfl
@[simp] theorem count_line (c : CounterName) : (count c s).line = s.line := rfl
@[simp] theorem count_counters (c : CounterName) : (count c s).counters = s.counters.bump c := rfl
@[simp] theorem count_peers (c : CounterName) : (count c s).peers = s.peers := rfl
@[simp] theorem count_clock (c : CounterName) : (count c s).clock = s.clock := rfl
@[simp] theorem count_blocks (c : CounterName) : (count c s).blocks = s.blocks := rfl
@[simp] theorem count_trains (c : CounterName) : (count c s).trains = s.trains := rfl
@[simp] theorem count_gov (c : CounterName) : (count c s).gov = s.gov := rfl
@[simp] theorem count_lamps (c : CounterName) : (count c s).lamps = s.lamps := rfl
@[simp] theorem count_rotary (c : CounterName) : (count c s).rotary = s.rotary := rfl
@[simp] theorem count_cues (c : CounterName) : (count c s).cues = s.cues := rfl
@[simp] theorem count_faults (c : CounterName) : (count c s).faults = s.faults := rfl
@[simp] theorem count_freeCount (c : CounterName) : (count c s).freeCount = s.freeCount := rfl
@[simp] theorem count_pending (c : CounterName) : (count c s).pending = s.pending := rfl
@[simp] theorem count_isRunning (c : CounterName) : (count c s).isRunning = s.isRunning := rfl
@[simp] theorem count_active (c : CounterName) : (count c s).active = s.active := rfl

/-! ### `malformed` -/

@[simp] theorem malformed_loader : (malformed s).loader = s.loader := rfl
@[simp] theorem malformed_settings : (malformed s).settings = s.settings := rfl
@[simp] theorem malformed_line : (malformed s).line = s.line := rfl
@[simp] theorem malformed_counters : (malformed s).counters = s.counters.bump .malformed := rfl
@[simp] theorem malformed_peers : (malformed s).peers = s.peers := rfl
@[simp] theorem malformed_clock : (malformed s).clock = s.clock := rfl
@[simp] theorem malformed_blocks : (malformed s).blocks = s.blocks := rfl
@[simp] theorem malformed_trains : (malformed s).trains = s.trains := rfl
@[simp] theorem malformed_gov : (malformed s).gov = s.gov := rfl
@[simp] theorem malformed_lamps : (malformed s).lamps = s.lamps := rfl
@[simp] theorem malformed_rotary : (malformed s).rotary = s.rotary := rfl
@[simp] theorem malformed_cues : (malformed s).cues = s.cues := rfl
@[simp] theorem malformed_faults : (malformed s).faults = s.faults := rfl
@[simp] theorem malformed_freeCount : (malformed s).freeCount = s.freeCount := rfl
@[simp] theorem malformed_pending : (malformed s).pending = s.pending := rfl
@[simp] theorem malformed_isRunning : (malformed s).isRunning = s.isRunning := rfl
@[simp] theorem malformed_active : (malformed s).active = s.active := rfl

/-! ### `endFault` -/

@[simp] theorem endFault_loader (k : FaultClass) : (endFault k s).loader = s.loader := rfl
@[simp] theorem endFault_settings (k : FaultClass) : (endFault k s).settings = s.settings := rfl
@[simp] theorem endFault_line (k : FaultClass) : (endFault k s).line = s.line := rfl
@[simp] theorem endFault_counters (k : FaultClass) : (endFault k s).counters = s.counters := rfl
@[simp] theorem endFault_peers (k : FaultClass) : (endFault k s).peers = s.peers := rfl
@[simp] theorem endFault_clock (k : FaultClass) : (endFault k s).clock = s.clock := rfl
@[simp] theorem endFault_blocks (k : FaultClass) : (endFault k s).blocks = s.blocks := rfl
@[simp] theorem endFault_trains (k : FaultClass) : (endFault k s).trains = s.trains := rfl
@[simp] theorem endFault_gov (k : FaultClass) : (endFault k s).gov = s.gov := rfl
@[simp] theorem endFault_lamps (k : FaultClass) : (endFault k s).lamps = s.lamps := rfl
@[simp] theorem endFault_rotary (k : FaultClass) : (endFault k s).rotary = s.rotary := rfl
@[simp] theorem endFault_cues (k : FaultClass) : (endFault k s).cues = s.cues := rfl
@[simp] theorem endFault_faults (k : FaultClass) : (endFault k s).faults = { s.faults with active := s.faults.active.set k false } := rfl
@[simp] theorem endFault_freeCount (k : FaultClass) : (endFault k s).freeCount = s.freeCount := rfl
@[simp] theorem endFault_pending (k : FaultClass) : (endFault k s).pending = s.pending := rfl
@[simp] theorem endFault_isRunning (k : FaultClass) : (endFault k s).isRunning = s.isRunning := rfl
@[simp] theorem endFault_active (k : FaultClass) : (endFault k s).active = s.active := rfl

/-! ### `setReceiver` -/

@[simp] theorem setReceiver_loader (r : Receiver) : (setReceiver r s).loader = s.loader := rfl
@[simp] theorem setReceiver_settings (r : Receiver) : (setReceiver r s).settings = s.settings := rfl
@[simp] theorem setReceiver_line (r : Receiver) : (setReceiver r s).line = { s.line with receiver := r } := rfl
@[simp] theorem setReceiver_counters (r : Receiver) : (setReceiver r s).counters = s.counters := rfl
@[simp] theorem setReceiver_peers (r : Receiver) : (setReceiver r s).peers = s.peers := rfl
@[simp] theorem setReceiver_clock (r : Receiver) : (setReceiver r s).clock = s.clock := rfl
@[simp] theorem setReceiver_blocks (r : Receiver) : (setReceiver r s).blocks = s.blocks := rfl
@[simp] theorem setReceiver_trains (r : Receiver) : (setReceiver r s).trains = s.trains := rfl
@[simp] theorem setReceiver_gov (r : Receiver) : (setReceiver r s).gov = s.gov := rfl
@[simp] theorem setReceiver_lamps (r : Receiver) : (setReceiver r s).lamps = s.lamps := rfl
@[simp] theorem setReceiver_rotary (r : Receiver) : (setReceiver r s).rotary = s.rotary := rfl
@[simp] theorem setReceiver_cues (r : Receiver) : (setReceiver r s).cues = s.cues := rfl
@[simp] theorem setReceiver_faults (r : Receiver) : (setReceiver r s).faults = s.faults := rfl
@[simp] theorem setReceiver_freeCount (r : Receiver) : (setReceiver r s).freeCount = s.freeCount := rfl
@[simp] theorem setReceiver_pending (r : Receiver) : (setReceiver r s).pending = s.pending := rfl
@[simp] theorem setReceiver_isRunning (r : Receiver) : (setReceiver r s).isRunning = s.isRunning := rfl
@[simp] theorem setReceiver_active (r : Receiver) : (setReceiver r s).active = s.active := rfl

/-! ### `startBit` -/

@[simp] theorem startBit_loader : (startBit s).loader = s.loader := rfl
@[simp] theorem startBit_settings : (startBit s).settings = s.settings := rfl
@[simp] theorem startBit_line : (startBit s).line = { s.line with idleDone := false } := rfl
@[simp] theorem startBit_counters : (startBit s).counters = s.counters := rfl
@[simp] theorem startBit_peers : (startBit s).peers = s.peers := rfl
@[simp] theorem startBit_clock : (startBit s).clock = s.clock := rfl
@[simp] theorem startBit_blocks : (startBit s).blocks = s.blocks := rfl
@[simp] theorem startBit_trains : (startBit s).trains = s.trains := rfl
@[simp] theorem startBit_gov : (startBit s).gov = s.gov := rfl
@[simp] theorem startBit_lamps : (startBit s).lamps = s.lamps := rfl
@[simp] theorem startBit_rotary : (startBit s).rotary = s.rotary := rfl
@[simp] theorem startBit_cues : (startBit s).cues = s.cues := rfl
@[simp] theorem startBit_faults : (startBit s).faults = s.faults := rfl
@[simp] theorem startBit_freeCount : (startBit s).freeCount = s.freeCount := rfl
@[simp] theorem startBit_pending : (startBit s).pending = s.pending := rfl
@[simp] theorem startBit_isRunning : (startBit s).isRunning = s.isRunning := rfl
@[simp] theorem startBit_active : (startBit s).active = s.active := rfl

/-! ### `heardValid` -/

@[simp] theorem heardValid_loader : (heardValid s).loader = s.loader := rfl
@[simp] theorem heardValid_settings : (heardValid s).settings = s.settings := rfl
@[simp] theorem heardValid_counters : (heardValid s).counters = s.counters := rfl
@[simp] theorem heardValid_peers : (heardValid s).peers = s.peers := rfl
@[simp] theorem heardValid_clock : (heardValid s).clock = s.clock := rfl
@[simp] theorem heardValid_blocks : (heardValid s).blocks = s.blocks := rfl
@[simp] theorem heardValid_trains : (heardValid s).trains = s.trains := rfl
@[simp] theorem heardValid_gov : (heardValid s).gov = s.gov := rfl
@[simp] theorem heardValid_lamps : (heardValid s).lamps = s.lamps := rfl
@[simp] theorem heardValid_rotary : (heardValid s).rotary = s.rotary := rfl
@[simp] theorem heardValid_cues : (heardValid s).cues = s.cues := rfl
@[simp] theorem heardValid_faults : (heardValid s).faults = s.faults := rfl
@[simp] theorem heardValid_freeCount : (heardValid s).freeCount = s.freeCount := rfl
@[simp] theorem heardValid_pending : (heardValid s).pending = s.pending := rfl
@[simp] theorem heardValid_isRunning : (heardValid s).isRunning = s.isRunning := rfl
@[simp] theorem heardValid_active : (heardValid s).active = s.active := rfl

/-! ### `setTx` -/

@[simp] theorem setTx_loader (t : Tx) : (setTx t s).loader = s.loader := rfl
@[simp] theorem setTx_settings (t : Tx) : (setTx t s).settings = s.settings := rfl
@[simp] theorem setTx_line (t : Tx) : (setTx t s).line = { s.line with tx := t } := rfl
@[simp] theorem setTx_counters (t : Tx) : (setTx t s).counters = s.counters := rfl
@[simp] theorem setTx_peers (t : Tx) : (setTx t s).peers = s.peers := rfl
@[simp] theorem setTx_clock (t : Tx) : (setTx t s).clock = s.clock := rfl
@[simp] theorem setTx_blocks (t : Tx) : (setTx t s).blocks = s.blocks := rfl
@[simp] theorem setTx_trains (t : Tx) : (setTx t s).trains = s.trains := rfl
@[simp] theorem setTx_gov (t : Tx) : (setTx t s).gov = s.gov := rfl
@[simp] theorem setTx_lamps (t : Tx) : (setTx t s).lamps = s.lamps := rfl
@[simp] theorem setTx_rotary (t : Tx) : (setTx t s).rotary = s.rotary := rfl
@[simp] theorem setTx_cues (t : Tx) : (setTx t s).cues = s.cues := rfl
@[simp] theorem setTx_faults (t : Tx) : (setTx t s).faults = s.faults := rfl
@[simp] theorem setTx_freeCount (t : Tx) : (setTx t s).freeCount = s.freeCount := rfl
@[simp] theorem setTx_pending (t : Tx) : (setTx t s).pending = s.pending := rfl
@[simp] theorem setTx_isRunning (t : Tx) : (setTx t s).isRunning = s.isRunning := rfl
@[simp] theorem setTx_active (t : Tx) : (setTx t s).active = s.active := rfl

/-! ### `idleComplete` -/

@[simp] theorem idleComplete_loader : (idleComplete s).loader = s.loader := rfl
@[simp] theorem idleComplete_settings : (idleComplete s).settings = s.settings := rfl
@[simp] theorem idleComplete_counters : (idleComplete s).counters = s.counters := rfl
@[simp] theorem idleComplete_peers : (idleComplete s).peers = s.peers := rfl
@[simp] theorem idleComplete_clock : (idleComplete s).clock = s.clock := rfl
@[simp] theorem idleComplete_blocks : (idleComplete s).blocks = s.blocks := rfl
@[simp] theorem idleComplete_trains : (idleComplete s).trains = s.trains := rfl
@[simp] theorem idleComplete_gov : (idleComplete s).gov = s.gov := rfl
@[simp] theorem idleComplete_lamps : (idleComplete s).lamps = s.lamps := rfl
@[simp] theorem idleComplete_rotary : (idleComplete s).rotary = s.rotary := rfl
@[simp] theorem idleComplete_cues : (idleComplete s).cues = s.cues := rfl
@[simp] theorem idleComplete_faults : (idleComplete s).faults = s.faults := rfl
@[simp] theorem idleComplete_freeCount : (idleComplete s).freeCount = s.freeCount := rfl
@[simp] theorem idleComplete_pending : (idleComplete s).pending = s.pending := rfl
@[simp] theorem idleComplete_isRunning : (idleComplete s).isRunning = s.isRunning := rfl
@[simp] theorem idleComplete_active : (idleComplete s).active = s.active := rfl

/-! ### `State.took` -/

@[simp] theorem State.took_loader (rest : List InMsg) : (s.took rest).loader = s.loader := rfl
@[simp] theorem State.took_settings (rest : List InMsg) : (s.took rest).settings = s.settings := rfl
@[simp] theorem State.took_line (rest : List InMsg) : (s.took rest).line = { s.line with inbound := rest } := rfl
@[simp] theorem State.took_counters (rest : List InMsg) : (s.took rest).counters = s.counters := rfl
@[simp] theorem State.took_peers (rest : List InMsg) : (s.took rest).peers = s.peers := rfl
@[simp] theorem State.took_clock (rest : List InMsg) : (s.took rest).clock = s.clock := rfl
@[simp] theorem State.took_blocks (rest : List InMsg) : (s.took rest).blocks = s.blocks := rfl
@[simp] theorem State.took_trains (rest : List InMsg) : (s.took rest).trains = s.trains := rfl
@[simp] theorem State.took_gov (rest : List InMsg) : (s.took rest).gov = s.gov := rfl
@[simp] theorem State.took_lamps (rest : List InMsg) : (s.took rest).lamps = s.lamps := rfl
@[simp] theorem State.took_rotary (rest : List InMsg) : (s.took rest).rotary = s.rotary := rfl
@[simp] theorem State.took_cues (rest : List InMsg) : (s.took rest).cues = s.cues := rfl
@[simp] theorem State.took_faults (rest : List InMsg) : (s.took rest).faults = s.faults := rfl
@[simp] theorem State.took_freeCount (rest : List InMsg) : (s.took rest).freeCount = s.freeCount := rfl
@[simp] theorem State.took_pending (rest : List InMsg) : (s.took rest).pending = s.pending := rfl
@[simp] theorem State.took_isRunning (rest : List InMsg) : (s.took rest).isRunning = s.isRunning := rfl
@[simp] theorem State.took_active (rest : List InMsg) : (s.took rest).active = s.active := rfl

/-! ### `State.tookMalformed` -/

@[simp] theorem State.tookMalformed_loader (rest : List InMsg) : (s.tookMalformed rest).loader = s.loader := rfl
@[simp] theorem State.tookMalformed_settings (rest : List InMsg) : (s.tookMalformed rest).settings = s.settings := rfl
@[simp] theorem State.tookMalformed_line (rest : List InMsg) : (s.tookMalformed rest).line = { s.line with inbound := rest } := rfl
@[simp] theorem State.tookMalformed_counters (rest : List InMsg) : (s.tookMalformed rest).counters = s.counters.bump .malformed := rfl
@[simp] theorem State.tookMalformed_peers (rest : List InMsg) : (s.tookMalformed rest).peers = s.peers := rfl
@[simp] theorem State.tookMalformed_clock (rest : List InMsg) : (s.tookMalformed rest).clock = s.clock := rfl
@[simp] theorem State.tookMalformed_blocks (rest : List InMsg) : (s.tookMalformed rest).blocks = s.blocks := rfl
@[simp] theorem State.tookMalformed_trains (rest : List InMsg) : (s.tookMalformed rest).trains = s.trains := rfl
@[simp] theorem State.tookMalformed_gov (rest : List InMsg) : (s.tookMalformed rest).gov = s.gov := rfl
@[simp] theorem State.tookMalformed_lamps (rest : List InMsg) : (s.tookMalformed rest).lamps = s.lamps := rfl
@[simp] theorem State.tookMalformed_rotary (rest : List InMsg) : (s.tookMalformed rest).rotary = s.rotary := rfl
@[simp] theorem State.tookMalformed_cues (rest : List InMsg) : (s.tookMalformed rest).cues = s.cues := rfl
@[simp] theorem State.tookMalformed_faults (rest : List InMsg) : (s.tookMalformed rest).faults = s.faults := rfl
@[simp] theorem State.tookMalformed_freeCount (rest : List InMsg) : (s.tookMalformed rest).freeCount = s.freeCount := rfl
@[simp] theorem State.tookMalformed_pending (rest : List InMsg) : (s.tookMalformed rest).pending = s.pending := rfl
@[simp] theorem State.tookMalformed_isRunning (rest : List InMsg) : (s.tookMalformed rest).isRunning = s.isRunning := rfl
@[simp] theorem State.tookMalformed_active (rest : List InMsg) : (s.tookMalformed rest).active = s.active := rfl

/-! ### `heardFrom` -/

@[simp] theorem heardFrom_loader (src : Nat) : (heardFrom src s).loader = s.loader := rfl
@[simp] theorem heardFrom_settings (src : Nat) : (heardFrom src s).settings = s.settings := rfl
@[simp] theorem heardFrom_line (src : Nat) : (heardFrom src s).line = s.line := rfl
@[simp] theorem heardFrom_counters (src : Nat) : (heardFrom src s).counters = s.counters := rfl
@[simp] theorem heardFrom_clock (src : Nat) : (heardFrom src s).clock = s.clock := rfl
@[simp] theorem heardFrom_blocks (src : Nat) : (heardFrom src s).blocks = s.blocks := rfl
@[simp] theorem heardFrom_trains (src : Nat) : (heardFrom src s).trains = s.trains := rfl
@[simp] theorem heardFrom_gov (src : Nat) : (heardFrom src s).gov = s.gov := rfl
@[simp] theorem heardFrom_lamps (src : Nat) : (heardFrom src s).lamps = s.lamps := rfl
@[simp] theorem heardFrom_rotary (src : Nat) : (heardFrom src s).rotary = s.rotary := rfl
@[simp] theorem heardFrom_cues (src : Nat) : (heardFrom src s).cues = s.cues := rfl
@[simp] theorem heardFrom_faults (src : Nat) : (heardFrom src s).faults = s.faults := rfl
@[simp] theorem heardFrom_freeCount (src : Nat) : (heardFrom src s).freeCount = s.freeCount := rfl
@[simp] theorem heardFrom_pending (src : Nat) : (heardFrom src s).pending = s.pending := rfl
@[simp] theorem heardFrom_isRunning (src : Nat) : (heardFrom src s).isRunning = s.isRunning := rfl
@[simp] theorem heardFrom_active (src : Nat) : (heardFrom src s).active = s.active := rfl

/-! ### `updateBlock` -/

@[simp] theorem updateBlock_loader (b : Nat) (f : Block → Block) : (updateBlock b f s).loader = s.loader := rfl
@[simp] theorem updateBlock_settings (b : Nat) (f : Block → Block) : (updateBlock b f s).settings = s.settings := rfl
@[simp] theorem updateBlock_line (b : Nat) (f : Block → Block) : (updateBlock b f s).line = s.line := rfl
@[simp] theorem updateBlock_counters (b : Nat) (f : Block → Block) : (updateBlock b f s).counters = s.counters := rfl
@[simp] theorem updateBlock_peers (b : Nat) (f : Block → Block) : (updateBlock b f s).peers = s.peers := rfl
@[simp] theorem updateBlock_clock (b : Nat) (f : Block → Block) : (updateBlock b f s).clock = s.clock := rfl
@[simp] theorem updateBlock_blocks (b : Nat) (f : Block → Block) : (updateBlock b f s).blocks = s.blocks.map (fun r => if r.number = b then f r else r) := rfl
@[simp] theorem updateBlock_trains (b : Nat) (f : Block → Block) : (updateBlock b f s).trains = s.trains := rfl
@[simp] theorem updateBlock_gov (b : Nat) (f : Block → Block) : (updateBlock b f s).gov = s.gov := rfl
@[simp] theorem updateBlock_lamps (b : Nat) (f : Block → Block) : (updateBlock b f s).lamps = s.lamps := rfl
@[simp] theorem updateBlock_rotary (b : Nat) (f : Block → Block) : (updateBlock b f s).rotary = s.rotary := rfl
@[simp] theorem updateBlock_cues (b : Nat) (f : Block → Block) : (updateBlock b f s).cues = s.cues := rfl
@[simp] theorem updateBlock_faults (b : Nat) (f : Block → Block) : (updateBlock b f s).faults = s.faults := rfl
@[simp] theorem updateBlock_freeCount (b : Nat) (f : Block → Block) : (updateBlock b f s).freeCount = s.freeCount := rfl
@[simp] theorem updateBlock_pending (b : Nat) (f : Block → Block) : (updateBlock b f s).pending = s.pending := rfl
@[simp] theorem updateBlock_isRunning (b : Nat) (f : Block → Block) : (updateBlock b f s).isRunning = s.isRunning := rfl
@[simp] theorem updateBlock_active (b : Nat) (f : Block → Block) : (updateBlock b f s).active = s.active := rfl

/-! ### `setBlockState` -/

@[simp] theorem setBlockState_loader (b : Nat) (st : BlockState) : (setBlockState b st s).loader = s.loader := rfl
@[simp] theorem setBlockState_settings (b : Nat) (st : BlockState) : (setBlockState b st s).settings = s.settings := rfl
@[simp] theorem setBlockState_line (b : Nat) (st : BlockState) : (setBlockState b st s).line = s.line := rfl
@[simp] theorem setBlockState_counters (b : Nat) (st : BlockState) : (setBlockState b st s).counters = s.counters := rfl
@[simp] theorem setBlockState_peers (b : Nat) (st : BlockState) : (setBlockState b st s).peers = s.peers := rfl
@[simp] theorem setBlockState_clock (b : Nat) (st : BlockState) : (setBlockState b st s).clock = s.clock := rfl
@[simp] theorem setBlockState_blocks (b : Nat) (st : BlockState) : (setBlockState b st s).blocks = s.blocks.map (fun r => if r.number = b then { r with state := st } else r) := rfl
@[simp] theorem setBlockState_trains (b : Nat) (st : BlockState) : (setBlockState b st s).trains = s.trains := rfl
@[simp] theorem setBlockState_gov (b : Nat) (st : BlockState) : (setBlockState b st s).gov = s.gov := rfl
@[simp] theorem setBlockState_lamps (b : Nat) (st : BlockState) : (setBlockState b st s).lamps = s.lamps := rfl
@[simp] theorem setBlockState_rotary (b : Nat) (st : BlockState) : (setBlockState b st s).rotary = s.rotary := rfl
@[simp] theorem setBlockState_cues (b : Nat) (st : BlockState) : (setBlockState b st s).cues = s.cues := rfl
@[simp] theorem setBlockState_faults (b : Nat) (st : BlockState) : (setBlockState b st s).faults = s.faults := rfl
@[simp] theorem setBlockState_freeCount (b : Nat) (st : BlockState) : (setBlockState b st s).freeCount = s.freeCount := rfl
@[simp] theorem setBlockState_pending (b : Nat) (st : BlockState) : (setBlockState b st s).pending = s.pending := rfl
@[simp] theorem setBlockState_isRunning (b : Nat) (st : BlockState) : (setBlockState b st s).isRunning = s.isRunning := rfl
@[simp] theorem setBlockState_active (b : Nat) (st : BlockState) : (setBlockState b st s).active = s.active := rfl

/-! ### `latchSamples` -/

@[simp] theorem latchSamples_loader (cs : List Nat) : (latchSamples cs s).loader = s.loader := rfl
@[simp] theorem latchSamples_settings (cs : List Nat) : (latchSamples cs s).settings = s.settings := rfl
@[simp] theorem latchSamples_line (cs : List Nat) : (latchSamples cs s).line = s.line := rfl
@[simp] theorem latchSamples_counters (cs : List Nat) : (latchSamples cs s).counters = s.counters := rfl
@[simp] theorem latchSamples_peers (cs : List Nat) : (latchSamples cs s).peers = s.peers := rfl
@[simp] theorem latchSamples_clock (cs : List Nat) : (latchSamples cs s).clock = s.clock := rfl
@[simp] theorem latchSamples_trains (cs : List Nat) : (latchSamples cs s).trains = s.trains := rfl
@[simp] theorem latchSamples_gov (cs : List Nat) : (latchSamples cs s).gov = s.gov := rfl
@[simp] theorem latchSamples_lamps (cs : List Nat) : (latchSamples cs s).lamps = s.lamps := rfl
@[simp] theorem latchSamples_rotary (cs : List Nat) : (latchSamples cs s).rotary = s.rotary := rfl
@[simp] theorem latchSamples_cues (cs : List Nat) : (latchSamples cs s).cues = s.cues := rfl
@[simp] theorem latchSamples_faults (cs : List Nat) : (latchSamples cs s).faults = s.faults := rfl
@[simp] theorem latchSamples_freeCount (cs : List Nat) : (latchSamples cs s).freeCount = s.freeCount := rfl
@[simp] theorem latchSamples_pending (cs : List Nat) : (latchSamples cs s).pending = s.pending := rfl
@[simp] theorem latchSamples_isRunning (cs : List Nat) : (latchSamples cs s).isRunning = s.isRunning := rfl
@[simp] theorem latchSamples_active (cs : List Nat) : (latchSamples cs s).active = s.active := rfl

/-! ### `updateTrain` -/

@[simp] theorem updateTrain_loader (n : Nat) (f : Train → Train) : (updateTrain n f s).loader = s.loader := rfl
@[simp] theorem updateTrain_settings (n : Nat) (f : Train → Train) : (updateTrain n f s).settings = s.settings := rfl
@[simp] theorem updateTrain_line (n : Nat) (f : Train → Train) : (updateTrain n f s).line = s.line := rfl
@[simp] theorem updateTrain_counters (n : Nat) (f : Train → Train) : (updateTrain n f s).counters = s.counters := rfl
@[simp] theorem updateTrain_peers (n : Nat) (f : Train → Train) : (updateTrain n f s).peers = s.peers := rfl
@[simp] theorem updateTrain_clock (n : Nat) (f : Train → Train) : (updateTrain n f s).clock = s.clock := rfl
@[simp] theorem updateTrain_blocks (n : Nat) (f : Train → Train) : (updateTrain n f s).blocks = s.blocks := rfl
@[simp] theorem updateTrain_gov (n : Nat) (f : Train → Train) : (updateTrain n f s).gov = s.gov := rfl
@[simp] theorem updateTrain_lamps (n : Nat) (f : Train → Train) : (updateTrain n f s).lamps = s.lamps := rfl
@[simp] theorem updateTrain_rotary (n : Nat) (f : Train → Train) : (updateTrain n f s).rotary = s.rotary := rfl
@[simp] theorem updateTrain_cues (n : Nat) (f : Train → Train) : (updateTrain n f s).cues = s.cues := rfl
@[simp] theorem updateTrain_faults (n : Nat) (f : Train → Train) : (updateTrain n f s).faults = s.faults := rfl
@[simp] theorem updateTrain_freeCount (n : Nat) (f : Train → Train) : (updateTrain n f s).freeCount = s.freeCount := rfl
@[simp] theorem updateTrain_pending (n : Nat) (f : Train → Train) : (updateTrain n f s).pending = s.pending := rfl
@[simp] theorem updateTrain_isRunning (n : Nat) (f : Train → Train) : (updateTrain n f s).isRunning = s.isRunning := rfl
@[simp] theorem updateTrain_active (n : Nat) (f : Train → Train) : (updateTrain n f s).active = s.active := rfl

/-! ### `addTrain` -/

@[simp] theorem addTrain_loader (t : Train) : (addTrain t s).loader = s.loader := rfl
@[simp] theorem addTrain_settings (t : Train) : (addTrain t s).settings = s.settings := rfl
@[simp] theorem addTrain_line (t : Train) : (addTrain t s).line = s.line := rfl
@[simp] theorem addTrain_counters (t : Train) : (addTrain t s).counters = s.counters := rfl
@[simp] theorem addTrain_peers (t : Train) : (addTrain t s).peers = s.peers := rfl
@[simp] theorem addTrain_clock (t : Train) : (addTrain t s).clock = s.clock := rfl
@[simp] theorem addTrain_blocks (t : Train) : (addTrain t s).blocks = s.blocks := rfl
@[simp] theorem addTrain_gov (t : Train) : (addTrain t s).gov = s.gov := rfl
@[simp] theorem addTrain_lamps (t : Train) : (addTrain t s).lamps = s.lamps := rfl
@[simp] theorem addTrain_rotary (t : Train) : (addTrain t s).rotary = s.rotary := rfl
@[simp] theorem addTrain_cues (t : Train) : (addTrain t s).cues = s.cues := rfl
@[simp] theorem addTrain_faults (t : Train) : (addTrain t s).faults = s.faults := rfl
@[simp] theorem addTrain_freeCount (t : Train) : (addTrain t s).freeCount = s.freeCount := rfl
@[simp] theorem addTrain_pending (t : Train) : (addTrain t s).pending = s.pending := rfl
@[simp] theorem addTrain_isRunning (t : Train) : (addTrain t s).isRunning = s.isRunning := rfl
@[simp] theorem addTrain_active (t : Train) : (addTrain t s).active = s.active := rfl

/-! ### `rederive` -/

@[simp] theorem rederive_loader : (rederive s).loader = s.loader := rfl
@[simp] theorem rederive_settings : (rederive s).settings = s.settings := rfl
@[simp] theorem rederive_line : (rederive s).line = s.line := rfl
@[simp] theorem rederive_counters : (rederive s).counters = s.counters := rfl
@[simp] theorem rederive_peers : (rederive s).peers = s.peers := rfl
@[simp] theorem rederive_clock : (rederive s).clock = s.clock := rfl
@[simp] theorem rederive_blocks : (rederive s).blocks = s.blocks := rfl
@[simp] theorem rederive_trains : (rederive s).trains = { s.trains with records := s.trains.records.map s.stopIfHeld } := rfl
@[simp] theorem rederive_gov : (rederive s).gov = s.gov := rfl
@[simp] theorem rederive_lamps : (rederive s).lamps = s.lamps := rfl
@[simp] theorem rederive_rotary : (rederive s).rotary = s.rotary := rfl
@[simp] theorem rederive_cues : (rederive s).cues = s.cues := rfl
@[simp] theorem rederive_faults : (rederive s).faults = s.faults := rfl
@[simp] theorem rederive_freeCount : (rederive s).freeCount = s.freeCount := rfl
@[simp] theorem rederive_pending : (rederive s).pending = s.pending := rfl
@[simp] theorem rederive_isRunning : (rederive s).isRunning = s.isRunning := rfl
@[simp] theorem rederive_active : (rederive s).active = s.active := rfl

/-! ### `moveSpeeds` -/

@[simp] theorem moveSpeeds_loader : (moveSpeeds s).loader = s.loader := rfl
@[simp] theorem moveSpeeds_settings : (moveSpeeds s).settings = s.settings := rfl
@[simp] theorem moveSpeeds_line : (moveSpeeds s).line = s.line := rfl
@[simp] theorem moveSpeeds_counters : (moveSpeeds s).counters = s.counters := rfl
@[simp] theorem moveSpeeds_peers : (moveSpeeds s).peers = s.peers := rfl
@[simp] theorem moveSpeeds_clock : (moveSpeeds s).clock = s.clock := rfl
@[simp] theorem moveSpeeds_blocks : (moveSpeeds s).blocks = s.blocks := rfl
@[simp] theorem moveSpeeds_gov : (moveSpeeds s).gov = s.gov := rfl
@[simp] theorem moveSpeeds_lamps : (moveSpeeds s).lamps = s.lamps := rfl
@[simp] theorem moveSpeeds_rotary : (moveSpeeds s).rotary = s.rotary := rfl
@[simp] theorem moveSpeeds_cues : (moveSpeeds s).cues = s.cues := rfl
@[simp] theorem moveSpeeds_faults : (moveSpeeds s).faults = s.faults := rfl
@[simp] theorem moveSpeeds_freeCount : (moveSpeeds s).freeCount = s.freeCount := rfl
@[simp] theorem moveSpeeds_pending : (moveSpeeds s).pending = s.pending := rfl
@[simp] theorem moveSpeeds_isRunning : (moveSpeeds s).isRunning = s.isRunning := rfl
@[simp] theorem moveSpeeds_active : (moveSpeeds s).active = s.active := rfl

/-! ### `ageView` -/

@[simp] theorem ageView_loader : (ageView s).loader = s.loader := rfl
@[simp] theorem ageView_settings : (ageView s).settings = s.settings := rfl
@[simp] theorem ageView_line : (ageView s).line = s.line := rfl
@[simp] theorem ageView_counters : (ageView s).counters = s.counters := rfl
@[simp] theorem ageView_peers : (ageView s).peers = s.peers := rfl
@[simp] theorem ageView_clock : (ageView s).clock = s.clock := rfl
@[simp] theorem ageView_blocks : (ageView s).blocks = s.blocks := rfl
@[simp] theorem ageView_gov : (ageView s).gov = s.gov := rfl
@[simp] theorem ageView_lamps : (ageView s).lamps = s.lamps := rfl
@[simp] theorem ageView_rotary : (ageView s).rotary = s.rotary := rfl
@[simp] theorem ageView_cues : (ageView s).cues = s.cues := rfl
@[simp] theorem ageView_faults : (ageView s).faults = s.faults := rfl
@[simp] theorem ageView_freeCount : (ageView s).freeCount = s.freeCount := rfl
@[simp] theorem ageView_pending : (ageView s).pending = s.pending := rfl
@[simp] theorem ageView_isRunning : (ageView s).isRunning = s.isRunning := rfl
@[simp] theorem ageView_active : (ageView s).active = s.active := rfl

/-! ### `updateClaim` -/

@[simp] theorem updateClaim_loader (n b : Nat) (f : PClaim → PClaim) : (updateClaim n b f s).loader = s.loader := rfl
@[simp] theorem updateClaim_settings (n b : Nat) (f : PClaim → PClaim) : (updateClaim n b f s).settings = s.settings := rfl
@[simp] theorem updateClaim_line (n b : Nat) (f : PClaim → PClaim) : (updateClaim n b f s).line = s.line := rfl
@[simp] theorem updateClaim_counters (n b : Nat) (f : PClaim → PClaim) : (updateClaim n b f s).counters = s.counters := rfl
@[simp] theorem updateClaim_peers (n b : Nat) (f : PClaim → PClaim) : (updateClaim n b f s).peers = s.peers := rfl
@[simp] theorem updateClaim_clock (n b : Nat) (f : PClaim → PClaim) : (updateClaim n b f s).clock = s.clock := rfl
@[simp] theorem updateClaim_blocks (n b : Nat) (f : PClaim → PClaim) : (updateClaim n b f s).blocks = s.blocks := rfl
@[simp] theorem updateClaim_gov (n b : Nat) (f : PClaim → PClaim) : (updateClaim n b f s).gov = s.gov := rfl
@[simp] theorem updateClaim_lamps (n b : Nat) (f : PClaim → PClaim) : (updateClaim n b f s).lamps = s.lamps := rfl
@[simp] theorem updateClaim_rotary (n b : Nat) (f : PClaim → PClaim) : (updateClaim n b f s).rotary = s.rotary := rfl
@[simp] theorem updateClaim_cues (n b : Nat) (f : PClaim → PClaim) : (updateClaim n b f s).cues = s.cues := rfl
@[simp] theorem updateClaim_faults (n b : Nat) (f : PClaim → PClaim) : (updateClaim n b f s).faults = s.faults := rfl
@[simp] theorem updateClaim_freeCount (n b : Nat) (f : PClaim → PClaim) : (updateClaim n b f s).freeCount = s.freeCount := rfl
@[simp] theorem updateClaim_pending (n b : Nat) (f : PClaim → PClaim) : (updateClaim n b f s).pending = s.pending := rfl
@[simp] theorem updateClaim_isRunning (n b : Nat) (f : PClaim → PClaim) : (updateClaim n b f s).isRunning = s.isRunning := rfl
@[simp] theorem updateClaim_active (n b : Nat) (f : PClaim → PClaim) : (updateClaim n b f s).active = s.active := rfl

/-! ### `updateClaimOf` -/

@[simp] theorem updateClaimOf_loader (n : Nat) (f : PClaim → PClaim) : (updateClaimOf n f s).loader = s.loader := rfl
@[simp] theorem updateClaimOf_settings (n : Nat) (f : PClaim → PClaim) : (updateClaimOf n f s).settings = s.settings := rfl
@[simp] theorem updateClaimOf_line (n : Nat) (f : PClaim → PClaim) : (updateClaimOf n f s).line = s.line := rfl
@[simp] theorem updateClaimOf_counters (n : Nat) (f : PClaim → PClaim) : (updateClaimOf n f s).counters = s.counters := rfl
@[simp] theorem updateClaimOf_peers (n : Nat) (f : PClaim → PClaim) : (updateClaimOf n f s).peers = s.peers := rfl
@[simp] theorem updateClaimOf_clock (n : Nat) (f : PClaim → PClaim) : (updateClaimOf n f s).clock = s.clock := rfl
@[simp] theorem updateClaimOf_blocks (n : Nat) (f : PClaim → PClaim) : (updateClaimOf n f s).blocks = s.blocks := rfl
@[simp] theorem updateClaimOf_gov (n : Nat) (f : PClaim → PClaim) : (updateClaimOf n f s).gov = s.gov := rfl
@[simp] theorem updateClaimOf_lamps (n : Nat) (f : PClaim → PClaim) : (updateClaimOf n f s).lamps = s.lamps := rfl
@[simp] theorem updateClaimOf_rotary (n : Nat) (f : PClaim → PClaim) : (updateClaimOf n f s).rotary = s.rotary := rfl
@[simp] theorem updateClaimOf_cues (n : Nat) (f : PClaim → PClaim) : (updateClaimOf n f s).cues = s.cues := rfl
@[simp] theorem updateClaimOf_faults (n : Nat) (f : PClaim → PClaim) : (updateClaimOf n f s).faults = s.faults := rfl
@[simp] theorem updateClaimOf_freeCount (n : Nat) (f : PClaim → PClaim) : (updateClaimOf n f s).freeCount = s.freeCount := rfl
@[simp] theorem updateClaimOf_pending (n : Nat) (f : PClaim → PClaim) : (updateClaimOf n f s).pending = s.pending := rfl
@[simp] theorem updateClaimOf_isRunning (n : Nat) (f : PClaim → PClaim) : (updateClaimOf n f s).isRunning = s.isRunning := rfl
@[simp] theorem updateClaimOf_active (n : Nat) (f : PClaim → PClaim) : (updateClaimOf n f s).active = s.active := rfl

/-! ### `tellAnnounced` -/

@[simp] theorem tellAnnounced_loader (src : Nat) : (tellAnnounced src s).loader = s.loader := rfl
@[simp] theorem tellAnnounced_settings (src : Nat) : (tellAnnounced src s).settings = s.settings := rfl
@[simp] theorem tellAnnounced_line (src : Nat) : (tellAnnounced src s).line = s.line := rfl
@[simp] theorem tellAnnounced_counters (src : Nat) : (tellAnnounced src s).counters = s.counters := rfl
@[simp] theorem tellAnnounced_peers (src : Nat) : (tellAnnounced src s).peers = s.peers := rfl
@[simp] theorem tellAnnounced_clock (src : Nat) : (tellAnnounced src s).clock = s.clock := rfl
@[simp] theorem tellAnnounced_blocks (src : Nat) : (tellAnnounced src s).blocks = s.blocks := rfl
@[simp] theorem tellAnnounced_gov (src : Nat) : (tellAnnounced src s).gov = s.gov := rfl
@[simp] theorem tellAnnounced_lamps (src : Nat) : (tellAnnounced src s).lamps = s.lamps := rfl
@[simp] theorem tellAnnounced_rotary (src : Nat) : (tellAnnounced src s).rotary = s.rotary := rfl
@[simp] theorem tellAnnounced_cues (src : Nat) : (tellAnnounced src s).cues = s.cues := rfl
@[simp] theorem tellAnnounced_faults (src : Nat) : (tellAnnounced src s).faults = s.faults := rfl
@[simp] theorem tellAnnounced_freeCount (src : Nat) : (tellAnnounced src s).freeCount = s.freeCount := rfl
@[simp] theorem tellAnnounced_pending (src : Nat) : (tellAnnounced src s).pending = s.pending := rfl
@[simp] theorem tellAnnounced_isRunning (src : Nat) : (tellAnnounced src s).isRunning = s.isRunning := rfl
@[simp] theorem tellAnnounced_active (src : Nat) : (tellAnnounced src s).active = s.active := rfl

/-! ### `govBudget` -/

@[simp] theorem govBudget_loader : (govBudget s).loader = s.loader := rfl
@[simp] theorem govBudget_settings : (govBudget s).settings = s.settings := rfl
@[simp] theorem govBudget_line : (govBudget s).line = s.line := rfl
@[simp] theorem govBudget_counters : (govBudget s).counters = s.counters := rfl
@[simp] theorem govBudget_peers : (govBudget s).peers = s.peers := rfl
@[simp] theorem govBudget_clock : (govBudget s).clock = s.clock := rfl
@[simp] theorem govBudget_blocks : (govBudget s).blocks = s.blocks := rfl
@[simp] theorem govBudget_trains : (govBudget s).trains = s.trains := rfl
@[simp] theorem govBudget_lamps : (govBudget s).lamps = s.lamps := rfl
@[simp] theorem govBudget_rotary : (govBudget s).rotary = s.rotary := rfl
@[simp] theorem govBudget_cues : (govBudget s).cues = s.cues := rfl
@[simp] theorem govBudget_faults : (govBudget s).faults = s.faults := rfl
@[simp] theorem govBudget_freeCount : (govBudget s).freeCount = s.freeCount := rfl
@[simp] theorem govBudget_pending : (govBudget s).pending = s.pending := rfl
@[simp] theorem govBudget_isRunning : (govBudget s).isRunning = s.isRunning := rfl
@[simp] theorem govBudget_active : (govBudget s).active = s.active := rfl

/-! ### `publishAllowance` -/

@[simp] theorem publishAllowance_loader : (publishAllowance s).loader = s.loader := rfl
@[simp] theorem publishAllowance_settings : (publishAllowance s).settings = s.settings := rfl
@[simp] theorem publishAllowance_line : (publishAllowance s).line = s.line := rfl
@[simp] theorem publishAllowance_counters : (publishAllowance s).counters = s.counters := rfl
@[simp] theorem publishAllowance_peers : (publishAllowance s).peers = s.peers := rfl
@[simp] theorem publishAllowance_clock : (publishAllowance s).clock = s.clock := rfl
@[simp] theorem publishAllowance_blocks : (publishAllowance s).blocks = s.blocks := rfl
@[simp] theorem publishAllowance_trains : (publishAllowance s).trains = s.trains := rfl
@[simp] theorem publishAllowance_lamps : (publishAllowance s).lamps = s.lamps := rfl
@[simp] theorem publishAllowance_rotary : (publishAllowance s).rotary = s.rotary := rfl
@[simp] theorem publishAllowance_cues : (publishAllowance s).cues = s.cues := rfl
@[simp] theorem publishAllowance_faults : (publishAllowance s).faults = s.faults := rfl
@[simp] theorem publishAllowance_freeCount : (publishAllowance s).freeCount = s.freeCount := rfl
@[simp] theorem publishAllowance_pending : (publishAllowance s).pending = s.pending := rfl
@[simp] theorem publishAllowance_isRunning : (publishAllowance s).isRunning = s.isRunning := rfl
@[simp] theorem publishAllowance_active : (publishAllowance s).active = s.active := rfl

/-! ### `handTrip` -/

@[simp] theorem handTrip_loader : (handTrip s).loader = s.loader := rfl
@[simp] theorem handTrip_settings : (handTrip s).settings = s.settings := rfl
@[simp] theorem handTrip_line : (handTrip s).line = s.line := rfl
@[simp] theorem handTrip_counters : (handTrip s).counters = s.counters := rfl
@[simp] theorem handTrip_peers : (handTrip s).peers = s.peers := rfl
@[simp] theorem handTrip_clock : (handTrip s).clock = s.clock := rfl
@[simp] theorem handTrip_blocks : (handTrip s).blocks = s.blocks := rfl
@[simp] theorem handTrip_gov : (handTrip s).gov = s.gov := rfl
@[simp] theorem handTrip_lamps : (handTrip s).lamps = s.lamps.trip := rfl
@[simp] theorem handTrip_rotary : (handTrip s).rotary = s.rotary.map Rotary.trip := rfl
@[simp] theorem handTrip_cues : (handTrip s).cues = s.cues := rfl
@[simp] theorem handTrip_faults : (handTrip s).faults = s.faults := rfl
@[simp] theorem handTrip_freeCount : (handTrip s).freeCount = s.freeCount := rfl
@[simp] theorem handTrip_pending : (handTrip s).pending = s.pending := rfl
@[simp] theorem handTrip_isRunning : (handTrip s).isRunning = s.isRunning := rfl
@[simp] theorem handTrip_active : (handTrip s).active = s.active := rfl

/-! ### `handTripEnd` -/

@[simp] theorem handTripEnd_loader : (handTripEnd s).loader = s.loader := rfl
@[simp] theorem handTripEnd_settings : (handTripEnd s).settings = s.settings := rfl
@[simp] theorem handTripEnd_line : (handTripEnd s).line = s.line := rfl
@[simp] theorem handTripEnd_counters : (handTripEnd s).counters = s.counters := rfl
@[simp] theorem handTripEnd_peers : (handTripEnd s).peers = s.peers := rfl
@[simp] theorem handTripEnd_clock : (handTripEnd s).clock = s.clock := rfl
@[simp] theorem handTripEnd_blocks : (handTripEnd s).blocks = s.blocks := rfl
@[simp] theorem handTripEnd_trains : (handTripEnd s).trains = s.trains := rfl
@[simp] theorem handTripEnd_gov : (handTripEnd s).gov = s.gov := rfl
@[simp] theorem handTripEnd_lamps : (handTripEnd s).lamps = s.lamps.tripEnd := rfl
@[simp] theorem handTripEnd_rotary : (handTripEnd s).rotary = s.rotary.map Rotary.tripEnd := rfl
@[simp] theorem handTripEnd_cues : (handTripEnd s).cues = s.cues := rfl
@[simp] theorem handTripEnd_faults : (handTripEnd s).faults = s.faults := rfl
@[simp] theorem handTripEnd_freeCount : (handTripEnd s).freeCount = s.freeCount := rfl
@[simp] theorem handTripEnd_pending : (handTripEnd s).pending = s.pending := rfl
@[simp] theorem handTripEnd_isRunning : (handTripEnd s).isRunning = s.isRunning := rfl
@[simp] theorem handTripEnd_active : (handTripEnd s).active = s.active := rfl

/-! ### `lampSet` -/

@[simp] theorem lampSet_loader (g : Group) (level : Nat) (u : Option Nat) (seen : Nat) : (lampSet g level u seen s).loader = s.loader := rfl
@[simp] theorem lampSet_settings (g : Group) (level : Nat) (u : Option Nat) (seen : Nat) : (lampSet g level u seen s).settings = s.settings := rfl
@[simp] theorem lampSet_line (g : Group) (level : Nat) (u : Option Nat) (seen : Nat) : (lampSet g level u seen s).line = s.line := rfl
@[simp] theorem lampSet_counters (g : Group) (level : Nat) (u : Option Nat) (seen : Nat) : (lampSet g level u seen s).counters = s.counters := rfl
@[simp] theorem lampSet_peers (g : Group) (level : Nat) (u : Option Nat) (seen : Nat) : (lampSet g level u seen s).peers = s.peers := rfl
@[simp] theorem lampSet_clock (g : Group) (level : Nat) (u : Option Nat) (seen : Nat) : (lampSet g level u seen s).clock = s.clock := rfl
@[simp] theorem lampSet_blocks (g : Group) (level : Nat) (u : Option Nat) (seen : Nat) : (lampSet g level u seen s).blocks = s.blocks := rfl
@[simp] theorem lampSet_trains (g : Group) (level : Nat) (u : Option Nat) (seen : Nat) : (lampSet g level u seen s).trains = s.trains := rfl
@[simp] theorem lampSet_gov (g : Group) (level : Nat) (u : Option Nat) (seen : Nat) : (lampSet g level u seen s).gov = s.gov := rfl
@[simp] theorem lampSet_rotary (g : Group) (level : Nat) (u : Option Nat) (seen : Nat) : (lampSet g level u seen s).rotary = s.rotary := rfl
@[simp] theorem lampSet_cues (g : Group) (level : Nat) (u : Option Nat) (seen : Nat) : (lampSet g level u seen s).cues = s.cues := rfl
@[simp] theorem lampSet_faults (g : Group) (level : Nat) (u : Option Nat) (seen : Nat) : (lampSet g level u seen s).faults = s.faults := rfl
@[simp] theorem lampSet_freeCount (g : Group) (level : Nat) (u : Option Nat) (seen : Nat) : (lampSet g level u seen s).freeCount = s.freeCount := rfl
@[simp] theorem lampSet_pending (g : Group) (level : Nat) (u : Option Nat) (seen : Nat) : (lampSet g level u seen s).pending = s.pending := rfl
@[simp] theorem lampSet_isRunning (g : Group) (level : Nat) (u : Option Nat) (seen : Nat) : (lampSet g level u seen s).isRunning = s.isRunning := rfl
@[simp] theorem lampSet_active (g : Group) (level : Nat) (u : Option Nat) (seen : Nat) : (lampSet g level u seen s).active = s.active := rfl

/-! ### `lampSetAcross` -/

@[simp] theorem lampSetAcross_loader (g : Group) (level : Nat) (u : Option Nat) (at' : Nat) : (lampSetAcross g level u at' s).loader = s.loader := rfl
@[simp] theorem lampSetAcross_settings (g : Group) (level : Nat) (u : Option Nat) (at' : Nat) : (lampSetAcross g level u at' s).settings = s.settings := rfl
@[simp] theorem lampSetAcross_line (g : Group) (level : Nat) (u : Option Nat) (at' : Nat) : (lampSetAcross g level u at' s).line = s.line := rfl
@[simp] theorem lampSetAcross_counters (g : Group) (level : Nat) (u : Option Nat) (at' : Nat) : (lampSetAcross g level u at' s).counters = s.counters := rfl
@[simp] theorem lampSetAcross_peers (g : Group) (level : Nat) (u : Option Nat) (at' : Nat) : (lampSetAcross g level u at' s).peers = s.peers := rfl
@[simp] theorem lampSetAcross_clock (g : Group) (level : Nat) (u : Option Nat) (at' : Nat) : (lampSetAcross g level u at' s).clock = s.clock := rfl
@[simp] theorem lampSetAcross_blocks (g : Group) (level : Nat) (u : Option Nat) (at' : Nat) : (lampSetAcross g level u at' s).blocks = s.blocks := rfl
@[simp] theorem lampSetAcross_trains (g : Group) (level : Nat) (u : Option Nat) (at' : Nat) : (lampSetAcross g level u at' s).trains = s.trains := rfl
@[simp] theorem lampSetAcross_gov (g : Group) (level : Nat) (u : Option Nat) (at' : Nat) : (lampSetAcross g level u at' s).gov = s.gov := rfl
@[simp] theorem lampSetAcross_rotary (g : Group) (level : Nat) (u : Option Nat) (at' : Nat) : (lampSetAcross g level u at' s).rotary = s.rotary := rfl
@[simp] theorem lampSetAcross_cues (g : Group) (level : Nat) (u : Option Nat) (at' : Nat) : (lampSetAcross g level u at' s).cues = s.cues := rfl
@[simp] theorem lampSetAcross_faults (g : Group) (level : Nat) (u : Option Nat) (at' : Nat) : (lampSetAcross g level u at' s).faults = s.faults := rfl
@[simp] theorem lampSetAcross_freeCount (g : Group) (level : Nat) (u : Option Nat) (at' : Nat) : (lampSetAcross g level u at' s).freeCount = s.freeCount := rfl
@[simp] theorem lampSetAcross_pending (g : Group) (level : Nat) (u : Option Nat) (at' : Nat) : (lampSetAcross g level u at' s).pending = s.pending := rfl
@[simp] theorem lampSetAcross_isRunning (g : Group) (level : Nat) (u : Option Nat) (at' : Nat) : (lampSetAcross g level u at' s).isRunning = s.isRunning := rfl
@[simp] theorem lampSetAcross_active (g : Group) (level : Nat) (u : Option Nat) (at' : Nat) : (lampSetAcross g level u at' s).active = s.active := rfl

/-! ### `lampClear` -/

@[simp] theorem lampClear_loader (g : Group) : (lampClear g s).loader = s.loader := rfl
@[simp] theorem lampClear_settings (g : Group) : (lampClear g s).settings = s.settings := rfl
@[simp] theorem lampClear_line (g : Group) : (lampClear g s).line = s.line := rfl
@[simp] theorem lampClear_counters (g : Group) : (lampClear g s).counters = s.counters := rfl
@[simp] theorem lampClear_peers (g : Group) : (lampClear g s).peers = s.peers := rfl
@[simp] theorem lampClear_clock (g : Group) : (lampClear g s).clock = s.clock := rfl
@[simp] theorem lampClear_blocks (g : Group) : (lampClear g s).blocks = s.blocks := rfl
@[simp] theorem lampClear_trains (g : Group) : (lampClear g s).trains = s.trains := rfl
@[simp] theorem lampClear_gov (g : Group) : (lampClear g s).gov = s.gov := rfl
@[simp] theorem lampClear_rotary (g : Group) : (lampClear g s).rotary = s.rotary := rfl
@[simp] theorem lampClear_cues (g : Group) : (lampClear g s).cues = s.cues := rfl
@[simp] theorem lampClear_faults (g : Group) : (lampClear g s).faults = s.faults := rfl
@[simp] theorem lampClear_freeCount (g : Group) : (lampClear g s).freeCount = s.freeCount := rfl
@[simp] theorem lampClear_pending (g : Group) : (lampClear g s).pending = s.pending := rfl
@[simp] theorem lampClear_isRunning (g : Group) : (lampClear g s).isRunning = s.isRunning := rfl
@[simp] theorem lampClear_active (g : Group) : (lampClear g s).active = s.active := rfl

/-! ### `lampStep` -/

@[simp] theorem lampStep_loader : (lampStep s).loader = s.loader := rfl
@[simp] theorem lampStep_settings : (lampStep s).settings = s.settings := rfl
@[simp] theorem lampStep_line : (lampStep s).line = s.line := rfl
@[simp] theorem lampStep_counters : (lampStep s).counters = s.counters := rfl
@[simp] theorem lampStep_peers : (lampStep s).peers = s.peers := rfl
@[simp] theorem lampStep_clock : (lampStep s).clock = s.clock := rfl
@[simp] theorem lampStep_blocks : (lampStep s).blocks = s.blocks := rfl
@[simp] theorem lampStep_trains : (lampStep s).trains = s.trains := rfl
@[simp] theorem lampStep_gov : (lampStep s).gov = s.gov := rfl
@[simp] theorem lampStep_rotary : (lampStep s).rotary = s.rotary := rfl
@[simp] theorem lampStep_cues : (lampStep s).cues = s.cues := rfl
@[simp] theorem lampStep_faults : (lampStep s).faults = s.faults := rfl
@[simp] theorem lampStep_freeCount : (lampStep s).freeCount = s.freeCount := rfl
@[simp] theorem lampStep_pending : (lampStep s).pending = s.pending := rfl
@[simp] theorem lampStep_isRunning : (lampStep s).isRunning = s.isRunning := rfl
@[simp] theorem lampStep_active : (lampStep s).active = s.active := rfl

/-! ### `setRotary` -/

@[simp] theorem setRotary_loader (c : Chan) (r : Rotary) : (setRotary c r s).loader = s.loader := rfl
@[simp] theorem setRotary_settings (c : Chan) (r : Rotary) : (setRotary c r s).settings = s.settings := rfl
@[simp] theorem setRotary_line (c : Chan) (r : Rotary) : (setRotary c r s).line = s.line := rfl
@[simp] theorem setRotary_counters (c : Chan) (r : Rotary) : (setRotary c r s).counters = s.counters := rfl
@[simp] theorem setRotary_peers (c : Chan) (r : Rotary) : (setRotary c r s).peers = s.peers := rfl
@[simp] theorem setRotary_clock (c : Chan) (r : Rotary) : (setRotary c r s).clock = s.clock := rfl
@[simp] theorem setRotary_blocks (c : Chan) (r : Rotary) : (setRotary c r s).blocks = s.blocks := rfl
@[simp] theorem setRotary_trains (c : Chan) (r : Rotary) : (setRotary c r s).trains = s.trains := rfl
@[simp] theorem setRotary_gov (c : Chan) (r : Rotary) : (setRotary c r s).gov = s.gov := rfl
@[simp] theorem setRotary_lamps (c : Chan) (r : Rotary) : (setRotary c r s).lamps = s.lamps := rfl
@[simp] theorem setRotary_rotary (c : Chan) (r : Rotary) : (setRotary c r s).rotary = s.rotary.set c r := rfl
@[simp] theorem setRotary_cues (c : Chan) (r : Rotary) : (setRotary c r s).cues = s.cues := rfl
@[simp] theorem setRotary_faults (c : Chan) (r : Rotary) : (setRotary c r s).faults = s.faults := rfl
@[simp] theorem setRotary_freeCount (c : Chan) (r : Rotary) : (setRotary c r s).freeCount = s.freeCount := rfl
@[simp] theorem setRotary_pending (c : Chan) (r : Rotary) : (setRotary c r s).pending = s.pending := rfl
@[simp] theorem setRotary_isRunning (c : Chan) (r : Rotary) : (setRotary c r s).isRunning = s.isRunning := rfl
@[simp] theorem setRotary_active (c : Chan) (r : Rotary) : (setRotary c r s).active = s.active := rfl

/-! ### `countMissed` -/

@[simp] theorem countMissed_loader : (countMissed s).loader = s.loader := rfl
@[simp] theorem countMissed_settings : (countMissed s).settings = s.settings := rfl
@[simp] theorem countMissed_line : (countMissed s).line = s.line := rfl
@[simp] theorem countMissed_counters : (countMissed s).counters = s.counters := rfl
@[simp] theorem countMissed_peers : (countMissed s).peers = s.peers := rfl
@[simp] theorem countMissed_clock : (countMissed s).clock = s.clock := rfl
@[simp] theorem countMissed_blocks : (countMissed s).blocks = s.blocks := rfl
@[simp] theorem countMissed_trains : (countMissed s).trains = s.trains := rfl
@[simp] theorem countMissed_gov : (countMissed s).gov = s.gov := rfl
@[simp] theorem countMissed_lamps : (countMissed s).lamps = s.lamps := rfl
@[simp] theorem countMissed_rotary : (countMissed s).rotary = s.rotary := rfl
@[simp] theorem countMissed_cues : (countMissed s).cues = { s.cues with missed := min 255 (s.cues.missed + 1) } := rfl
@[simp] theorem countMissed_faults : (countMissed s).faults = s.faults := rfl
@[simp] theorem countMissed_freeCount : (countMissed s).freeCount = s.freeCount := rfl
@[simp] theorem countMissed_pending : (countMissed s).pending = s.pending := rfl
@[simp] theorem countMissed_isRunning : (countMissed s).isRunning = s.isRunning := rfl
@[simp] theorem countMissed_active : (countMissed s).active = s.active := rfl

/-! ### `wrapIndex` -/

@[simp] theorem wrapIndex_loader : (wrapIndex s).loader = s.loader := rfl
@[simp] theorem wrapIndex_settings : (wrapIndex s).settings = s.settings := rfl
@[simp] theorem wrapIndex_line : (wrapIndex s).line = s.line := rfl
@[simp] theorem wrapIndex_counters : (wrapIndex s).counters = s.counters := rfl
@[simp] theorem wrapIndex_peers : (wrapIndex s).peers = s.peers := rfl
@[simp] theorem wrapIndex_clock : (wrapIndex s).clock = s.clock := rfl
@[simp] theorem wrapIndex_blocks : (wrapIndex s).blocks = s.blocks := rfl
@[simp] theorem wrapIndex_trains : (wrapIndex s).trains = s.trains := rfl
@[simp] theorem wrapIndex_gov : (wrapIndex s).gov = s.gov := rfl
@[simp] theorem wrapIndex_lamps : (wrapIndex s).lamps = s.lamps := rfl
@[simp] theorem wrapIndex_rotary : (wrapIndex s).rotary = s.rotary := rfl
@[simp] theorem wrapIndex_cues : (wrapIndex s).cues = { s.cues with index := 0 } := rfl
@[simp] theorem wrapIndex_faults : (wrapIndex s).faults = s.faults := rfl
@[simp] theorem wrapIndex_freeCount : (wrapIndex s).freeCount = s.freeCount := rfl
@[simp] theorem wrapIndex_pending : (wrapIndex s).pending = s.pending := rfl
@[simp] theorem wrapIndex_isRunning : (wrapIndex s).isRunning = s.isRunning := rfl
@[simp] theorem wrapIndex_active : (wrapIndex s).active = s.active := rfl

/-! ### `insertCues` -/

@[simp] theorem insertCues_loader (l : List Cue) : (insertCues l s).loader = s.loader := rfl
@[simp] theorem insertCues_settings (l : List Cue) : (insertCues l s).settings = s.settings := rfl
@[simp] theorem insertCues_line (l : List Cue) : (insertCues l s).line = s.line := rfl
@[simp] theorem insertCues_counters (l : List Cue) : (insertCues l s).counters = s.counters := rfl
@[simp] theorem insertCues_peers (l : List Cue) : (insertCues l s).peers = s.peers := rfl
@[simp] theorem insertCues_clock (l : List Cue) : (insertCues l s).clock = s.clock := rfl
@[simp] theorem insertCues_blocks (l : List Cue) : (insertCues l s).blocks = s.blocks := rfl
@[simp] theorem insertCues_trains (l : List Cue) : (insertCues l s).trains = s.trains := rfl
@[simp] theorem insertCues_gov (l : List Cue) : (insertCues l s).gov = s.gov := rfl
@[simp] theorem insertCues_lamps (l : List Cue) : (insertCues l s).lamps = s.lamps := rfl
@[simp] theorem insertCues_rotary (l : List Cue) : (insertCues l s).rotary = s.rotary := rfl
@[simp] theorem insertCues_faults (l : List Cue) : (insertCues l s).faults = s.faults := rfl
@[simp] theorem insertCues_freeCount (l : List Cue) : (insertCues l s).freeCount = s.freeCount := rfl
@[simp] theorem insertCues_pending (l : List Cue) : (insertCues l s).pending = s.pending := rfl
@[simp] theorem insertCues_isRunning (l : List Cue) : (insertCues l s).isRunning = s.isRunning := rfl
@[simp] theorem insertCues_active (l : List Cue) : (insertCues l s).active = s.active := rfl

/-! ### `clearCues` -/

@[simp] theorem clearCues_loader : (clearCues s).loader = s.loader := rfl
@[simp] theorem clearCues_settings : (clearCues s).settings = s.settings := rfl
@[simp] theorem clearCues_line : (clearCues s).line = s.line := rfl
@[simp] theorem clearCues_counters : (clearCues s).counters = s.counters := rfl
@[simp] theorem clearCues_peers : (clearCues s).peers = s.peers := rfl
@[simp] theorem clearCues_clock : (clearCues s).clock = s.clock := rfl
@[simp] theorem clearCues_blocks : (clearCues s).blocks = s.blocks := rfl
@[simp] theorem clearCues_trains : (clearCues s).trains = s.trains := rfl
@[simp] theorem clearCues_gov : (clearCues s).gov = s.gov := rfl
@[simp] theorem clearCues_lamps : (clearCues s).lamps = s.lamps := rfl
@[simp] theorem clearCues_rotary : (clearCues s).rotary = s.rotary := rfl
@[simp] theorem clearCues_cues : (clearCues s).cues = { s.cues with cues := [], index := 0 } := rfl
@[simp] theorem clearCues_faults : (clearCues s).faults = s.faults := rfl
@[simp] theorem clearCues_freeCount : (clearCues s).freeCount = s.freeCount := rfl
@[simp] theorem clearCues_pending : (clearCues s).pending = s.pending := rfl
@[simp] theorem clearCues_isRunning : (clearCues s).isRunning = s.isRunning := rfl
@[simp] theorem clearCues_active : (clearCues s).active = s.active := rfl

/-! ### `showFaults` -/

@[simp] theorem showFaults_loader : (showFaults s).loader = s.loader := rfl
@[simp] theorem showFaults_settings : (showFaults s).settings = s.settings := rfl
@[simp] theorem showFaults_line : (showFaults s).line = s.line := rfl
@[simp] theorem showFaults_counters : (showFaults s).counters = s.counters := rfl
@[simp] theorem showFaults_peers : (showFaults s).peers = s.peers := rfl
@[simp] theorem showFaults_clock : (showFaults s).clock = s.clock := rfl
@[simp] theorem showFaults_blocks : (showFaults s).blocks = s.blocks := rfl
@[simp] theorem showFaults_trains : (showFaults s).trains = s.trains := rfl
@[simp] theorem showFaults_gov : (showFaults s).gov = s.gov := rfl
@[simp] theorem showFaults_lamps : (showFaults s).lamps = s.lamps := rfl
@[simp] theorem showFaults_rotary : (showFaults s).rotary = s.rotary := rfl
@[simp] theorem showFaults_cues : (showFaults s).cues = s.cues := rfl
@[simp] theorem showFaults_faults : (showFaults s).faults = { active := s.faults.active.clearMomentary, fresh := .empty } := rfl
@[simp] theorem showFaults_freeCount : (showFaults s).freeCount = s.freeCount := rfl
@[simp] theorem showFaults_pending : (showFaults s).pending = s.pending := rfl
@[simp] theorem showFaults_isRunning : (showFaults s).isRunning = s.isRunning := rfl
@[simp] theorem showFaults_active : (showFaults s).active = s.active := rfl

/-! ### `raiseFlags` -/

@[simp] theorem raiseFlags_loader (k : FaultClass) : (raiseFlags k s).loader = s.loader := rfl
@[simp] theorem raiseFlags_settings (k : FaultClass) : (raiseFlags k s).settings = s.settings := rfl
@[simp] theorem raiseFlags_line (k : FaultClass) : (raiseFlags k s).line = s.line := rfl
@[simp] theorem raiseFlags_counters (k : FaultClass) : (raiseFlags k s).counters = s.counters := rfl
@[simp] theorem raiseFlags_peers (k : FaultClass) : (raiseFlags k s).peers = s.peers := rfl
@[simp] theorem raiseFlags_clock (k : FaultClass) : (raiseFlags k s).clock = s.clock := rfl
@[simp] theorem raiseFlags_blocks (k : FaultClass) : (raiseFlags k s).blocks = s.blocks := rfl
@[simp] theorem raiseFlags_trains (k : FaultClass) : (raiseFlags k s).trains = s.trains := rfl
@[simp] theorem raiseFlags_gov (k : FaultClass) : (raiseFlags k s).gov = s.gov := rfl
@[simp] theorem raiseFlags_lamps (k : FaultClass) : (raiseFlags k s).lamps = s.lamps := rfl
@[simp] theorem raiseFlags_rotary (k : FaultClass) : (raiseFlags k s).rotary = s.rotary := rfl
@[simp] theorem raiseFlags_cues (k : FaultClass) : (raiseFlags k s).cues = s.cues := rfl
@[simp] theorem raiseFlags_freeCount (k : FaultClass) : (raiseFlags k s).freeCount = s.freeCount := rfl
@[simp] theorem raiseFlags_pending (k : FaultClass) : (raiseFlags k s).pending = s.pending := rfl
@[simp] theorem raiseFlags_isRunning (k : FaultClass) : (raiseFlags k s).isRunning = s.isRunning := rfl
@[simp] theorem raiseFlags_active (k : FaultClass) : (raiseFlags k s).active = s.active := rfl

end Sys2Proof.Machine
end

