-- ==== Sys2Proof/Laws/Ops.lean ====
section
/-! SUPPORT. One lemma for each shared operation that says everything it can do: offers, the inbound queue, fault classes,
the order R12 leaves open, the outbound queues, counters and fault sets. -/

namespace Sys2Proof.Machine

/-! ### Counters and fault sets -/

/-- A counted event moves the named counter alone (R24). -/
theorem Counters.get_bump (c : Counters) (k j : CounterName) :
    (c.bump k).get j = if j = k then (c.get k).bump else c.get j := by
  cases k <;> cases j <;> rfl

/-- A counter stays within 255, and its mark stands at 255 alone (R24). -/
theorem Counter.bump_bounded (c : Counter) (h : c.count ≤ 255 ∧ (c.saturated = true → c.count = 255)) :
    c.bump.count ≤ 255 ∧ (c.bump.saturated = true → c.bump.count = 255) := by
  unfold Counter.bump
  split
  · exact ⟨by simp; omega, fun hs => by have := h.2 hs; simp at hs ⊢; omega⟩
  · exact ⟨h.1, fun _ => by simp; omega⟩

/-- Setting the flag of one class leaves the others. -/
theorem FaultSet.get_set (f : FaultSet) (k j : FaultClass) (v : Bool) :
    (f.set k v).get j = if j = k then v else f.get j := by
  cases k <;> cases j <;> rfl

/-! ### Outbound queues -/

/-- The messages of a queue whose absent head has nothing behind it are as many as its length. -/
theorem OutQueue.length_eq_msgs (q : OutQueue) (h : q.head = none → q.rest = []) : q.length = q.msgs.length := by
  cases hq : q.head <;> simp [OutQueue.length, OutQueue.msgs, hq]
  simp [h hq]

/-- An added message stands last (R12). -/
theorem OutQueue.msgs_push (q : OutQueue) (m : OutMsg) (h : q.head = none → q.rest = []) :
    (q.push m).msgs = q.msgs ++ [m] := by
  cases hq : q.head <;> simp [OutQueue.push, OutQueue.msgs, hq, newHead]
  exact h hq

/-- When the head leaves, the messages behind it stay in their order (R14). -/
theorem OutQueue.msgs_pop (q : OutQueue) : q.pop.msgs = q.rest := by
  cases hq : q.rest <;> simp [OutQueue.pop, OutQueue.msgs, hq, OutQueue.empty, newHead]

/-- Nothing stands behind an absent head after an addition. -/
theorem OutQueue.push_formed (q : OutQueue) (m : OutMsg) : (q.push m).head = none → (q.push m).rest = [] := by
  cases hq : q.head <;> simp [OutQueue.push, hq]

/-- Nothing stands behind an absent head after the head has left. -/
theorem OutQueue.pop_formed (q : OutQueue) : q.pop.head = none → q.pop.rest = [] := by
  cases hq : q.rest <;> simp [OutQueue.pop, hq, OutQueue.empty]

/-! ### Offers (R12, R13) -/

/-- An offer changes the two outbound queues alone of the line controller. -/
theorem Line.offered_eq (l : Line) (m : OutMsg) :
    l.offered m = { l with urgent := (l.offered m).urgent, routine := (l.offered m).routine } := by
  unfold Line.offered; cases l.offerFate m <;> simp only []
  split <;> rfl

/-- Everything an offer can do: nothing unless the station is Running, otherwise what becomes of the offer, with OutDrop
counting a drop. -/
theorem offer_cases (m : OutMsg) (s : State) :
    (s.isRunning = false ∧ offer m s = s) ∨
    (s.isRunning = true ∧ s.line.offerFate m ≠ .dropped ∧ offer m s = { s with line := s.line.offered m }) ∨
    (s.isRunning = true ∧ s.line.offerFate m = .dropped ∧ offer m s = { s with counters := s.counters.bump .outDrop }) := by
  by_cases hr : s.isRunning = true
  · by_cases hf : s.line.offerFate m = .dropped
    · refine .inr (.inr ⟨hr, hf, ?_⟩)
      have : s.line.offered m = s.line := by simp [Line.offered, hf]
      simp [offer, hr, hf, this]
    · exact .inr (.inl ⟨hr, hf, by simp [offer, hr, hf]⟩)
  · exact .inl ⟨by simpa using hr, by simp [offer, hr]⟩

/-- What an offer leaves: all but the outbound queues and OutDrop. -/
theorem offer_eq (m : OutMsg) (s : State) :
    offer m s = { s with
      line := { s.line with urgent := (offer m s).line.urgent, routine := (offer m s).line.routine }
      counters := { s.counters with outDrop := (offer m s).counters.outDrop } } := by
  rcases offer_cases m s with ⟨_, h⟩ | ⟨_, _, h⟩ | ⟨_, _, h⟩ <;> rw [h]
  · simpa using Line.offered_eq s.line m
  · rfl

section
variable (m : OutMsg) (s : State)
@[simp] theorem offer_loader : (offer m s).loader = s.loader := by rw [offer_eq]
@[simp] theorem offer_settings : (offer m s).settings = s.settings := by rw [offer_eq]
@[simp] theorem offer_peers : (offer m s).peers = s.peers := by rw [offer_eq]
@[simp] theorem offer_clock : (offer m s).clock = s.clock := by rw [offer_eq]
@[simp] theorem offer_blocks : (offer m s).blocks = s.blocks := by rw [offer_eq]
@[simp] theorem offer_trains : (offer m s).trains = s.trains := by rw [offer_eq]
@[simp] theorem offer_gov : (offer m s).gov = s.gov := by rw [offer_eq]
@[simp] theorem offer_lamps : (offer m s).lamps = s.lamps := by rw [offer_eq]
@[simp] theorem offer_rotary : (offer m s).rotary = s.rotary := by rw [offer_eq]
@[simp] theorem offer_cues : (offer m s).cues = s.cues := by rw [offer_eq]
@[simp] theorem offer_faults : (offer m s).faults = s.faults := by rw [offer_eq]
@[simp] theorem offer_freeCount : (offer m s).freeCount = s.freeCount := by rw [offer_eq]
@[simp] theorem offer_pending : (offer m s).pending = s.pending := by rw [offer_eq]
@[simp] theorem offer_receiver : (offer m s).line.receiver = s.line.receiver := by rw [offer_eq]
@[simp] theorem offer_inbound : (offer m s).line.inbound = s.line.inbound := by rw [offer_eq]
@[simp] theorem offer_tx : (offer m s).line.tx = s.line.tx := by rw [offer_eq]
@[simp] theorem offer_idleDone : (offer m s).line.idleDone = s.line.idleDone := by rw [offer_eq]
@[simp] theorem offer_cond : (offer m s).line.cond = s.line.cond := by rw [offer_eq]
@[simp] theorem offer_silence : (offer m s).line.silence = s.line.silence := by rw [offer_eq]
@[simp] theorem offer_isRunning : (offer m s).isRunning = s.isRunning := by simp [State.isRunning]
@[simp] theorem offer_active : (offer m s).active = s.active := by simp [State.active]
end

/-- What an offer does to the line and its counters depends on the line, the counters and the station state alone. -/
theorem offer_congr (m : OutMsg) {s t : State} (hl : s.line = t.line) (hc : s.counters = t.counters)
    (hr : s.isRunning = t.isRunning) :
    (offer m s).line = (offer m t).line ∧ (offer m s).counters = (offer m t).counters := by
  unfold offer; rw [hl, hc, hr]; split <;> exact ⟨by simp_all, by simp_all⟩

/-! ### The inbound queue (R11) -/

/-- A taking row without its message does nothing. -/
theorem takeMessage_stray (mine : InMsg → Bool) (f : InMsg → State → State) (s : State)
    (h : s.active = false ∨ ∀ m rest, s.line.inbound = m :: rest → mine m = false) : takeMessage mine f s = s := by
  unfold takeMessage
  split
  next m rest hm =>
    rcases h with h | h
    · simp [h]
    · simp [h m rest hm]
  next => rfl

/-- A taking row with its message hands it to the block, and the message has left the queue. -/
theorem takeMessage_head (mine : InMsg → Bool) (f : InMsg → State → State) (s : State) (m : InMsg) (rest : List InMsg)
    (h : s.offersHead m rest) (hm : mine m = true) : takeMessage mine f s = f m (s.took rest) := by
  simp [takeMessage, h.1, h.2, hm, State.took]

/-- A malformed body is counted and nothing else (R11). -/
theorem withBody_none {α : Type} (f : α → State → State) (s : State) (rest : List InMsg) :
    withBody none f (s.took rest) = s.tookMalformed rest := rfl

/-! ### The order R12 leaves open -/

/-- Whatever the choice, both parts take place, in one of the two orders. -/
theorem inEitherOrder_cases (f g : State → State) (s : State) :
    inEitherOrder f g s = g (f { s with freeCount := s.freeCount + 1 }) ∨
      inEitherOrder f g s = f (g { s with freeCount := s.freeCount + 1 }) := by
  unfold inEitherOrder
  cases Config.offerOrder s.freeCount <;> simp

/-- A message put in at a place of the queue stands there, the messages from there on behind it (R12). -/
theorem OutQueue.msgs_insertAt (i : Nat) (m : OutMsg) (q : OutQueue) (h : q.head = none → q.rest = []) :
    (q.insertAt i m).msgs = q.msgs.take i ++ m :: q.msgs.drop i := by
  cases hq : q.head with
  | none => simp [OutQueue.insertAt, OutQueue.push, OutQueue.msgs, hq, newHead, h hq]
  | some x => cases i <;> simp [OutQueue.insertAt, OutQueue.msgs, hq, newHead]

/-- A queue cut back keeps its oldest messages. -/
theorem OutQueue.msgs_cutTo (n : Nat) (q : OutQueue) (h : 0 < n) (hq : q.head ≠ none) :
    (q.cutTo n).msgs = q.msgs.take n := by
  obtain ⟨n, rfl⟩ := Nat.exists_eq_add_one_of_ne_zero (Nat.ne_of_gt h)
  cases hh : q.head with
  | none => exact absurd hh hq
  | some x => simp [OutQueue.cutTo, OutQueue.msgs, hh]

/-- Without messages, and in a station that is not Running, nothing is offered. -/
theorem offerAmong_none (lo : Nat) (msgs : List OutMsg) (s : State) (h : msgs = [] ∨ s.isRunning = false) :
    offerAmong lo msgs s = s := by
  cases msgs with
  | nil => rfl
  | cons m rest => simp [offerAmong, h.resolve_left (by simp)]

/-- What messages offered among others leave: all but the routine queue, OutDrop and the count of free choices. -/
theorem offerAmong_eq (lo : Nat) (msgs : List OutMsg) (s : State) :
    offerAmong lo msgs s = { s with
      line := { s.line with routine := (offerAmong lo msgs s).line.routine }
      counters := { s.counters with outDrop := (offerAmong lo msgs s).counters.outDrop }
      freeCount := (offerAmong lo msgs s).freeCount } := by
  induction msgs generalizing lo s with
  | nil => rfl
  | cons m rest ih =>
    unfold offerAmong
    split
    · rw [ih]
      simp only
      split <;> rfl
    · rfl

section
variable (lo : Nat) (msgs : List OutMsg) (s : State)
@[simp] theorem offerAmong_loader : (offerAmong lo msgs s).loader = s.loader := by rw [offerAmong_eq]
@[simp] theorem offerAmong_settings : (offerAmong lo msgs s).settings = s.settings := by rw [offerAmong_eq]
@[simp] theorem offerAmong_peers : (offerAmong lo msgs s).peers = s.peers := by rw [offerAmong_eq]
@[simp] theorem offerAmong_clock : (offerAmong lo msgs s).clock = s.clock := by rw [offerAmong_eq]
@[simp] theorem offerAmong_blocks : (offerAmong lo msgs s).blocks = s.blocks := by rw [offerAmong_eq]
@[simp] theorem offerAmong_trains : (offerAmong lo msgs s).trains = s.trains := by rw [offerAmong_eq]
@[simp] theorem offerAmong_gov : (offerAmong lo msgs s).gov = s.gov := by rw [offerAmong_eq]
@[simp] theorem offerAmong_lamps : (offerAmong lo msgs s).lamps = s.lamps := by rw [offerAmong_eq]
@[simp] theorem offerAmong_rotary : (offerAmong lo msgs s).rotary = s.rotary := by rw [offerAmong_eq]
@[simp] theorem offerAmong_cues : (offerAmong lo msgs s).cues = s.cues := by rw [offerAmong_eq]
@[simp] theorem offerAmong_faults : (offerAmong lo msgs s).faults = s.faults := by rw [offerAmong_eq]
@[simp] theorem offerAmong_pending : (offerAmong lo msgs s).pending = s.pending := by rw [offerAmong_eq]
@[simp] theorem offerAmong_urgent : (offerAmong lo msgs s).line.urgent = s.line.urgent := by rw [offerAmong_eq]
end

/-! ### Fault classes (R183, R185) -/

/-- The two flags are set and nothing else (R183). -/
@[simp] theorem raiseFlags_faults (k : FaultClass) (s : State) :
    (raiseFlags k s).faults = { active := s.faults.active.set k true, fresh := s.faults.fresh.set k true } := rfl

/-- Everything a raise can do: the two flags, and the notice unless it is masked. -/
theorem raiseFault_cases (k : FaultClass) (d : Nat) (s : State) :
    let u : State := { s with faults := { active := s.faults.active.set k true, fresh := s.faults.fresh.set k true } }
    (s.settings.mask.get k = true ∧ raiseFault k d s = u) ∨
      (s.settings.mask.get k = false ∧ raiseFault k d s = offer (faultNoticeMsg k d) u) := by
  cases h : s.settings.mask.get k <;> simp [raiseFault, State.noticeOf, raiseFlags, h]

/-- What a raise leaves: all but the fault sets, the outbound queues and OutDrop. -/
theorem raiseFault_eq (k : FaultClass) (d : Nat) (s : State) :
    raiseFault k d s = { s with
      faults := { active := s.faults.active.set k true, fresh := s.faults.fresh.set k true }
      line := { s.line with urgent := (raiseFault k d s).line.urgent, routine := (raiseFault k d s).line.routine }
      counters := { s.counters with outDrop := (raiseFault k d s).counters.outDrop } } := by
  rcases raiseFault_cases k d s with ⟨_, h⟩ | ⟨_, h⟩ <;> rw [h]
  rw [offer_eq]

section
variable (k : FaultClass) (d : Nat) (s : State)
@[simp] theorem raiseFault_loader : (raiseFault k d s).loader = s.loader := by rw [raiseFault_eq]
@[simp] theorem raiseFault_settings : (raiseFault k d s).settings = s.settings := by rw [raiseFault_eq]
@[simp] theorem raiseFault_peers : (raiseFault k d s).peers = s.peers := by rw [raiseFault_eq]
@[simp] theorem raiseFault_clock : (raiseFault k d s).clock = s.clock := by rw [raiseFault_eq]
@[simp] theorem raiseFault_blocks : (raiseFault k d s).blocks = s.blocks := by rw [raiseFault_eq]
@[simp] theorem raiseFault_trains : (raiseFault k d s).trains = s.trains := by rw [raiseFault_eq]
@[simp] theorem raiseFault_gov : (raiseFault k d s).gov = s.gov := by rw [raiseFault_eq]
@[simp] theorem raiseFault_lamps : (raiseFault k d s).lamps = s.lamps := by rw [raiseFault_eq]
@[simp] theorem raiseFault_rotary : (raiseFault k d s).rotary = s.rotary := by rw [raiseFault_eq]
@[simp] theorem raiseFault_cues : (raiseFault k d s).cues = s.cues := by rw [raiseFault_eq]
@[simp] theorem raiseFault_freeCount : (raiseFault k d s).freeCount = s.freeCount := by rw [raiseFault_eq]
@[simp] theorem raiseFault_pending : (raiseFault k d s).pending = s.pending := by rw [raiseFault_eq]
@[simp] theorem raiseFault_inbound : (raiseFault k d s).line.inbound = s.line.inbound := by rw [raiseFault_eq]
@[simp] theorem raiseFault_receiver : (raiseFault k d s).line.receiver = s.line.receiver := by rw [raiseFault_eq]
@[simp] theorem raiseFault_tx : (raiseFault k d s).line.tx = s.line.tx := by rw [raiseFault_eq]
@[simp] theorem raiseFault_isRunning : (raiseFault k d s).isRunning = s.isRunning := by simp [State.isRunning]
@[simp] theorem raiseFault_active : (raiseFault k d s).active = s.active := by simp [State.active]
end

/-! ### Moving toward a target -/

/-- A value that moves toward a target by at most a step (R82, R132, R145): it is there when the difference is no more
than the step, and otherwise exactly a step nearer. -/
theorem moveToward_spec (target step n : Nat) :
    moveToward target step n =
      if target ≤ n + step ∧ n ≤ target + step then target else if n < target then n + step else n - step := by
  unfold moveToward; split <;> split <;> (try split) <;> omega

end Sys2Proof.Machine
end

