-- ==== Sys2Proof/Laws/Frames.lean ====
section
/-! SUPPORT. What the operations of the track unit, the train table, the peer table and the cue unit leave as it is: one
frame lemma for each, closed under running one after another and over lists. -/

namespace Sys2Proof.Machine

/-! ### Running over lists -/

/-- A relation that every step of a list keeps holds over the whole list. -/
theorem foldl_keeps {α : Type} {P : State → State → Prop} (refl : ∀ s, P s s)
    (trans : ∀ {a b c}, P a b → P b c → P a c) (f : State → α → State) (step : ∀ s a, P s (f s a)) (l : List α)
    (s : State) : P s (l.foldl f s) := by
  induction l generalizing s with
  | nil => exact refl s
  | cons a l ih => exact trans (step s a) (ih (f s a))

/-! ### The track unit and the train table -/

namespace State

/-- `changesTrack`, field by field. -/
theorem changesTrack_iff (s t : State) : s.changesTrack t ↔
    t.loader = s.loader ∧ t.settings = s.settings ∧ t.peers = s.peers ∧ t.clock = s.clock ∧ t.gov = s.gov ∧
    t.lamps = s.lamps ∧ t.rotary = s.rotary ∧ t.cues = s.cues ∧ t.faults = s.faults ∧ t.pending = s.pending ∧
    t.line = { s.line with urgent := t.line.urgent, routine := t.line.routine } ∧
    t.counters = { s.counters with outDrop := t.counters.outDrop } := by
  unfold changesTrack
  constructor
  · intro h; rw [h]; simp
  · rintro ⟨h1, h2, h3, h4, h5, h6, h7, h8, h9, h10, h11, h12⟩
    rw [← h1, ← h2, ← h3, ← h4, ← h5, ← h6, ← h7, ← h8, ← h9, ← h10, ← h11, ← h12]

theorem changesTrack.refl (s : State) : s.changesTrack s := rfl

theorem changesTrack.trans {a b c : State} (h : a.changesTrack b) (h' : b.changesTrack c) : a.changesTrack c := by
  unfold changesTrack at *; rw [h', h]

end State

open State (changesTrack)

/-- A change of block records, train table and free choices is one of the track. -/
theorem changesTrack_parts (s : State) (bs : List Block) (tt : TrainTable) (n : Nat) :
    s.changesTrack { s with blocks := bs, trains := tt, freeCount := n } := rfl

theorem changesTrack_offer (m : OutMsg) (s : State) : s.changesTrack (offer m s) := by
  unfold State.changesTrack
  conv => lhs; rw [offer_eq]
  simp

theorem changesTrack_updateBlock (b : Nat) (f : Block → Block) (s : State) : s.changesTrack (updateBlock b f s) := rfl

theorem changesTrack_updateTrain (n : Nat) (f : Train → Train) (s : State) : s.changesTrack (updateTrain n f s) := rfl

theorem changesTrack_updateClaim (n b : Nat) (f : PClaim → PClaim) (s : State) :
    s.changesTrack (updateClaim n b f s) := rfl

theorem changesTrack_rederive (s : State) : s.changesTrack (rederive s) := rfl

theorem changesTrack_addTrain (t : Train) (s : State) : s.changesTrack (addTrain t s) := rfl

theorem changesTrack_ageView (s : State) : s.changesTrack (ageView s) := rfl

theorem changesTrack_moveSpeeds (s : State) : s.changesTrack (moveSpeeds s) := rfl

theorem changesTrack_noticeBlock (b : Nat) (st : BlockState) (s : State) : s.changesTrack (noticeBlock b st s) :=
  (changesTrack_rederive s).trans (changesTrack_offer _ _)

theorem changesTrack_changeBlock (b : Nat) (st : BlockState) (s : State) : s.changesTrack (changeBlock b st s) :=
  (changesTrack_updateBlock b _ s).trans (changesTrack_noticeBlock b st _)

theorem changesTrack_applyAnswer (a : Answer) (b : Nat) (v : Reservation) (s : State) :
    s.changesTrack (applyAnswer a b v s) := by
  cases a
  case reserve => exact changesTrack_changeBlock b _ s
  all_goals rfl

theorem changesTrack_releaseBlock (b n r : Nat) (s : State) : s.changesTrack (releaseBlock b n r s) := by
  unfold releaseBlock
  split
  · split
    · exact changesTrack_changeBlock ..
    · rfl
  · rfl

theorem changesTrack_localClaim (t : Train) (b : Nat) (s : State) : s.changesTrack (localClaim t b s) :=
  (changesTrack_applyAnswer _ b _ s).trans (changesTrack_rederive _)

theorem changesTrack_sendClaim (c : PClaim) (s : State) : s.changesTrack (sendClaim c s) := by
  unfold sendClaim
  split
  · refine .trans ?_ (changesTrack_offer _ _)
    rfl
  · rfl

theorem changesTrack_trySend (s : State) (c : PClaim) : s.changesTrack (trySend s c) := by
  unfold trySend
  split
  · exact changesTrack_sendClaim c s
  · rfl

theorem changesTrack_sendClaims (s : State) : s.changesTrack (sendClaims s) :=
  foldl_keeps (P := State.changesTrack) State.changesTrack.refl State.changesTrack.trans trySend changesTrack_trySend s.trains.claims s

theorem changesTrack_releaseClaim (s : State) (c : PClaim) : s.changesTrack (releaseClaim s c) := by
  unfold releaseClaim
  split
  · split
    · exact changesTrack_offer ..
    · exact .trans (changesTrack_parts s s.blocks s.trains (s.freeCount + 1)) (changesTrack_offer _ _)
  · rfl

theorem changesTrack_removeClaims (gone : PClaim → Bool) (s : State) : s.changesTrack (removeClaims gone s) := by
  unfold removeClaims
  refine .trans ?_ (foldl_keeps (P := State.changesTrack) State.changesTrack.refl State.changesTrack.trans releaseClaim
    changesTrack_releaseClaim _ _)
  rfl

theorem changesTrack_requestRemote (s : State) (n : Nat) : s.changesTrack (requestRemote s n) := by
  unfold requestRemote
  repeat' first | rfl | split

theorem changesTrack_requestLocal (s : State) (n : Nat) : s.changesTrack (requestLocal s n) := by
  unfold requestLocal
  split
  · rfl
  · split
    · rfl
    · split
      · exact changesTrack_localClaim ..
      · rfl

theorem changesTrack_askExit (n : Nat) (s : State) : s.changesTrack (askExit n s) := by
  unfold askExit
  have h := (changesTrack_requestLocal s n).trans (changesTrack_requestRemote _ n)
  simp only
  split
  · exact h.trans (changesTrack_sendClaims _)
  · exact h

theorem changesTrack_exitChanged (n : Nat) (s : State) : s.changesTrack (exitChanged n s) := by
  unfold exitChanged
  simp only
  split
  · exact changesTrack_updateTrain ..
  · exact (changesTrack_updateTrain ..).trans ((changesTrack_removeClaims _ _).trans (changesTrack_rederive _))

theorem changesTrack_turnRound (n : Nat) (s : State) : s.changesTrack (turnRound n s) := by
  unfold turnRound
  split
  · rfl
  · simp only
    refine .trans ?_ (changesTrack_rederive _)
    refine .trans ?_ (changesTrack_removeClaims _ _)
    refine .trans (changesTrack_updateTrain n Train.reversed s) ?_
    split
    · exact changesTrack_releaseBlock ..
    · rfl

theorem changesTrack_performReversal (n : Nat) (s : State) : s.changesTrack (performReversal n s) := by
  unfold performReversal
  split
  · rfl
  · exact (changesTrack_turnRound n s).trans (changesTrack_askExit _ _)

theorem changesTrack_reverseInStep (s : State) (n : Nat) : s.changesTrack (reverseInStep s n) := by
  unfold reverseInStep
  split
  · rfl
  · split
    · exact (changesTrack_turnRound n s).trans (changesTrack_requestLocal _ _)
    · rfl

theorem changesTrack_tryReversal (s : State) (n : Nat) : s.changesTrack (tryReversal s n) := by
  unfold tryReversal
  split
  · rfl
  · split
    · exact changesTrack_performReversal ..
    · rfl

theorem changesTrack_withdraw (n : Nat) (s : State) : s.changesTrack (withdraw n s) := by
  unfold withdraw
  refine foldl_keeps (P := State.changesTrack) State.changesTrack.refl State.changesTrack.trans _ (fun s b => ?_) _ _
  split
  · exact changesTrack_changeBlock ..
  · rfl

theorem changesTrack_removeRecord (n : Nat) (s : State) : s.changesTrack (removeRecord n s) := by
  unfold removeRecord
  simp only
  refine .trans (foldl_keeps (P := State.changesTrack) State.changesTrack.refl State.changesTrack.trans
    (fun s b => releaseBlock b n s.settings.station s) (fun s b => changesTrack_releaseBlock b n _ s) s.blockNumbers s) ?_
  refine .trans (changesTrack_removeClaims (fun c => c.train == n) _) ?_
  refine .trans ?_ (changesTrack_withdraw n _)
  rfl

theorem changesTrack_pushBlock (n b : Nat) (s : State) : s.changesTrack (pushBlock n b s) :=
  (changesTrack_updateTrain ..).trans ((changesTrack_exitChanged n _).trans (changesTrack_askExit n _))

theorem changesTrack_entry (b : Nat) (v : Reservation) (s : State) : s.changesTrack (entry b v s) := by
  unfold entry
  split
  · exact changesTrack_pushBlock ..
  · exact (changesTrack_addTrain ..).trans ((changesTrack_rederive _).trans (changesTrack_askExit _ _))

theorem changesTrack_placement (b n : Nat) (d : Dir) (s : State) : s.changesTrack (placement b n d s) := by
  unfold placement
  split
  · exact changesTrack_pushBlock ..
  · exact (changesTrack_addTrain ..).trans (changesTrack_rederive _)

theorem changesTrack_vacated (b n : Nat) (s : State) : s.changesTrack (vacated b n s) := by
  unfold vacated
  split
  · rfl
  · split
    · simp only
      split
      · exact (changesTrack_updateTrain n _ s).trans (changesTrack_removeRecord n _)
      · split
        · exact (changesTrack_updateTrain n _ s).trans (changesTrack_exitChanged n _)
        · exact changesTrack_updateTrain n _ s
    · rfl

theorem changesTrack_giveUpBlock (b n : Nat) (st : BlockState) (s : State) : s.changesTrack (giveUpBlock b n st s) := by
  unfold giveUpBlock
  have h := (changesTrack_updateBlock b (fun r => { r with state := st }) s).trans
    ((changesTrack_vacated b n _).trans (changesTrack_noticeBlock b st _))
  simp only
  split
  · exact h
  · exact h.trans (changesTrack_tryReversal _ n)

theorem changesTrack_vacancyDeclared (b : Nat) (s : State) : s.changesTrack (vacancyDeclared b s) := by
  unfold vacancyDeclared
  split
  · exact changesTrack_giveUpBlock ..
  · exact changesTrack_changeBlock ..
  · rfl

theorem changesTrack_joinBlocked (b : Nat) (s : State) : s.changesTrack (joinBlocked b s) := by
  unfold joinBlocked
  split
  · exact changesTrack_giveUpBlock ..
  · exact changesTrack_changeBlock ..
  · rfl

theorem changesTrack_leaveBlocked (b : Nat) (s : State) : s.changesTrack (leaveBlocked b s) := by
  unfold leaveBlocked
  split
  · exact changesTrack_changeBlock ..
  · rfl

theorem changesTrack_applyBlockedSet (f : Nat → Bool) (s : State) : s.changesTrack (applyBlockedSet f s) := by
  unfold applyBlockedSet
  refine foldl_keeps (P := State.changesTrack) State.changesTrack.refl State.changesTrack.trans _ (fun s b => ?_) _ _
  simp only
  split
  · exact changesTrack_joinBlocked ..
  · split
    · exact changesTrack_leaveBlocked ..
    · rfl

theorem changesTrack_remoteClaim (r : Nat) (c : ClaimBody) (s : State) : s.changesTrack (remoteClaim r c s) := by
  unfold remoteClaim
  simp only
  have h := (changesTrack_applyAnswer (s.answerTo c.block c.train r) c.block
    (c.reservation r s.settings) s).trans (changesTrack_rederive _)
  refine h.trans ?_
  unfold sendAnswer
  split
  · rfl
  all_goals exact changesTrack_offer ..

theorem changesTrack_placeTrain (b n : Nat) (d : Dir) (src : Nat) (s : State) :
    s.changesTrack (placeTrain b n d src s) := by
  unfold placeTrain
  split
  · rfl
  · split
    · split
      · exact (changesTrack_updateBlock ..).trans ((changesTrack_placement b n d _).trans (changesTrack_noticeBlock b _ _))
      · exact changesTrack_offer ..
    all_goals exact changesTrack_offer ..

theorem changesTrack_orderSpeed (n v : Nat) (s : State) : s.changesTrack (orderSpeed n v s) := rfl

theorem changesTrack_orderStop (n : Nat) (s : State) : s.changesTrack (orderStop n s) := rfl

theorem changesTrack_orderReverse (n : Nat) (s : State) : s.changesTrack (orderReverse n s) := by
  unfold orderReverse
  split
  · rfl
  · split
    · rfl
    · split
      · exact changesTrack_performReversal ..
      · rfl

theorem changesTrack_orderRemove (n : Nat) (s : State) : s.changesTrack (orderRemove n s) := by
  unfold orderRemove
  split
  · exact changesTrack_removeRecord ..
  · rfl

theorem changesTrack_grantFor (b n src : Nat) (s : State) : s.changesTrack (grantFor b n src s) := by
  unfold grantFor
  split
  · rfl
  · exact changesTrack_offer ..

theorem changesTrack_completeClaim (r : BlockReport) (s : State) : s.changesTrack (completeClaim r s) := by
  unfold completeClaim
  simp only
  split <;> rfl

theorem changesTrack_updateView (r : BlockReport) (s : State) : s.changesTrack (updateView r s) := by
  unfold updateView
  split <;> rfl

theorem changesTrack_clearEnteredFrom (r : BlockReport) (s : State) : s.changesTrack (clearEnteredFrom r s) := by
  unfold clearEnteredFrom
  simp only
  refine .trans (foldl_keeps (P := State.changesTrack) State.changesTrack.refl State.changesTrack.trans
    (fun s n => updateTrain n (fun t => { t with enteredFrom := none }) s) (fun s n => changesTrack_updateTrain n _ s) _ s)
    (foldl_keeps (P := State.changesTrack) State.changesTrack.refl State.changesTrack.trans tryReversal changesTrack_tryReversal _ _)

theorem changesTrack_applyReport (r : BlockReport) (s : State) : s.changesTrack (applyReport r s) := by
  unfold applyReport
  split
  · rfl
  · refine .trans (changesTrack_completeClaim r s) (.trans ?_ (.trans (changesTrack_updateView r _) (changesTrack_clearEnteredFrom r _)))
    rfl

theorem changesTrack_speedStep (s : State) : s.changesTrack (speedStep s) := by
  unfold speedStep
  simp only
  have hl := State.changesTrack.trans (foldl_keeps (P := State.changesTrack) State.changesTrack.refl State.changesTrack.trans
    requestLocal changesTrack_requestLocal s.trainNumbers s) ((changesTrack_moveSpeeds _).trans (changesTrack_rederive _))
  have hr (l : List Nat) (u : State) : u.changesTrack (ageView (l.foldl reverseInStep u)) :=
    .trans (foldl_keeps (P := State.changesTrack) State.changesTrack.refl State.changesTrack.trans reverseInStep
      changesTrack_reverseInStep l u) (changesTrack_ageView _)
  have hq (l : List Nat) (u : State) : u.changesTrack (sendClaims (l.foldl requestRemote u)) :=
    .trans (foldl_keeps (P := State.changesTrack) State.changesTrack.refl State.changesTrack.trans requestRemote
      changesTrack_requestRemote l u) (changesTrack_sendClaims _)
  exact hl.trans ((hr _ _).trans (hq _ _))

/-! ### The peer table -/

theorem State.changesClash.refl (s : State) : s.changesClash s := rfl

theorem State.changesClash.trans {a b c : State} (h : a.changesClash b) (h' : b.changesClash c) : a.changesClash c := by
  unfold State.changesClash at *; rw [h', h]

theorem State.changesTrack.toClash {s t : State} (h : s.changesTrack t) : s.changesClash t := by
  unfold State.changesClash; unfold State.changesTrack at h; rw [h]

theorem changesClash_raiseFault (k : FaultClass) (d : Nat) (s : State) : s.changesClash (raiseFault k d s) := by
  rcases raiseFault_cases k d s with ⟨_, h⟩ | ⟨_, h⟩ <;> rw [h]
  · rfl
  · refine State.changesClash.trans ?_ (changesTrack_offer _ _).toClash
    rfl

theorem changesClash_clashFlags (n : Nat) (ps : List Peer) (s : State) : s.changesClash (clashFlags n ps s) := by
  unfold clashFlags
  split <;> split <;> rfl

theorem changesClash_offerAmong (lo : Nat) (msgs : List OutMsg) (s : State) : s.changesClash (offerAmong lo msgs s) := by
  unfold State.changesClash; rw [offerAmong_eq]

/-- What settling the clash marks leaves (R36, R37). -/
theorem changesClash_settleClash (ps : List Peer) (s : State) : s.changesClash (settleClash ps s) := by
  unfold settleClash
  simp only
  refine .trans ?_ (.trans (changesTrack_applyBlockedSet (inBlockedSet (settleMarks s.settings ps)) _).toClash
    (.trans (changesClash_clashFlags _ _ _) (changesClash_offerAmong _ _ _)))
  rfl

theorem changesClash_makeAllStale (s : State) : s.changesClash (makeAllStale s) := changesClash_settleClash _ s

/-! ### The cue unit -/

theorem State.changesByActions.refl (s : State) : s.changesByActions s := rfl

theorem State.changesByActions.trans {a b c : State} (h : a.changesByActions b) (h' : b.changesByActions c) :
    a.changesByActions c := by
  unfold State.changesByActions at *; rw [h', h]

theorem State.changesTrack.toActions {s t : State} (h : s.changesTrack t) : s.changesByActions t := by
  unfold State.changesByActions; unfold State.changesTrack at h; rw [h]

theorem changesByActions_raiseFault (k : FaultClass) (d : Nat) (s : State) : s.changesByActions (raiseFault k d s) := by
  rcases raiseFault_cases k d s with ⟨_, h⟩ | ⟨_, h⟩ <;> rw [h]
  · rfl
  · refine State.changesByActions.trans ?_ (changesTrack_offer _ _).toActions
    rfl

theorem changesByActions_setRotary (c : Chan) (r : Rotary) (s : State) : s.changesByActions (setRotary c r s) := rfl

theorem changesByActions_lampSet (g : Group) (l : Nat) (u : Option Nat) (n : Nat) (s : State) :
    s.changesByActions (lampSet g l u n s) := by cases g <;> rfl

theorem changesByActions_lampSetAcross (g : Group) (l : Nat) (u : Option Nat) (n : Nat) (s : State) :
    s.changesByActions (lampSetAcross g l u n s) := by cases g <;> rfl

theorem changesByActions_lampClear (g : Group) (s : State) : s.changesByActions (lampClear g s) := by cases g <;> rfl

theorem changesByActions_setLevel (p : PowerLevel) (s : State) : s.changesByActions (setLevel p s) := by
  unfold setLevel; split <;> rfl

theorem changesByActions_rotaryRun (c : Chan) (n : Nat) (s : State) : s.changesByActions (rotaryRun c n s) := by
  unfold rotaryRun
  split
  · split
    · exact changesByActions_raiseFault ..
    · rfl
  · rfl

theorem changesByActions_rotaryStop (c : Chan) (s : State) : s.changesByActions (rotaryStop c s) := by
  unfold rotaryStop; split <;> rfl

theorem changesByActions_rotaryClear (c : Chan) (s : State) : s.changesByActions (rotaryClear c s) := by
  unfold rotaryClear
  split
  · simp only; split <;> rfl
  · rfl

theorem changesByActions_makeOwn (code hop : Nat) (s : State) : s.changesByActions (makeOwn code hop s) := by
  unfold makeOwn; split <;> rfl

/-- Two parts in either order, each leaving what actions leave. -/
theorem changesByActions_inEitherOrder {f g : State → State} (hf : ∀ s : State, s.changesByActions (f s))
    (hg : ∀ s : State, s.changesByActions (g s)) (s : State) : s.changesByActions (inEitherOrder f g s) := by
  rcases inEitherOrder_cases f g s with h | h <;> rw [h]
  · refine .trans ?_ (.trans (hf _) (hg _)); rfl
  · refine .trans ?_ (.trans (hg _) (hf _)); rfl

/-- What an action leaves (R163). -/
theorem changesByActions_perform (hop : Option Nat) (a : Action) (s : State) : s.changesByActions (perform hop a s) := by
  unfold perform
  cases a with
  | lampSet g l u => exact changesByActions_lampSet ..
  | lampClear g => exact changesByActions_lampClear ..
  | power p => exact changesByActions_setLevel ..
  | rotaryRun c n => exact changesByActions_rotaryRun ..
  | rotaryStop c => exact changesByActions_rotaryStop ..
  | rotaryClear c => exact changesByActions_rotaryClear ..
  | trainSpeed n v =>
    exact changesByActions_inEitherOrder (fun s => (changesTrack_offer _ s).toActions)
      (fun s => (changesTrack_orderSpeed n v s).toActions) s
  | trainStop n =>
    exact changesByActions_inEitherOrder (fun s => (changesTrack_offer _ s).toActions)
      (fun s => (changesTrack_orderStop n s).toActions) s
  | trainReverse n =>
    exact changesByActions_inEitherOrder (fun s => (changesTrack_offer _ s).toActions)
      (fun s => (changesTrack_orderReverse n s).toActions) s
  | showEvent c =>
    cases hop with
    | none => rfl
    | some h => exact changesByActions_makeOwn ..

theorem changesByActions_matchListen (e : ShowEvent) (s : State) : s.changesByActions (matchListen e s) := by
  unfold matchListen
  refine foldl_keeps (P := State.changesByActions) State.changesByActions.refl State.changesByActions.trans _ (fun s l => ?_) _ _
  unfold listenStep
  split
  · split
    · exact changesByActions_perform ..
    · rfl
  · rfl

theorem changesByActions_takeOwn (s : State) : s.changesByActions (takeOwn s) := by
  unfold takeOwn
  split
  · rfl
  · refine .trans ?_ (changesByActions_inEitherOrder (fun s => (changesTrack_offer _ s).toActions)
      (changesByActions_matchListen _) _)
    rfl

theorem changesByActions_takeOwns (n : Nat) (s : State) : s.changesByActions (takeOwns n s) := by
  induction n generalizing s with
  | zero => rfl
  | succ n ih => exact (changesByActions_takeOwn s).trans (ih _)

theorem changesByActions_settleOwn (s : State) : s.changesByActions (settleOwn s) := changesByActions_takeOwns _ s

/-- With no own event pending there is nothing to take. -/
theorem settleOwn_nil (s : State) (h : s.cues.own = []) : settleOwn s = s := by
  simp [settleOwn, ownFuel, h, takeOwns]

theorem changesByActions_fire (s : State) (c : Cue) : s.changesByActions (fire s c) := by
  refine .trans ?_ (changesByActions_perform _ _ _)
  rfl

theorem changesByActions_passOver (s : State) (c : Cue) : s.changesByActions (passOver s c) := by
  unfold passOver
  simp only
  split
  · refine .trans ?_ (changesByActions_lampSetAcross _ _ _ _ _); rfl
  · split
    · refine .trans ?_ (changesByActions_perform _ _ _); rfl
    · rfl

theorem changesByActions_coverCues {f : State → Cue → State} (hf : ∀ (s : State) (c : Cue), s.changesByActions (f s c)) (t : Nat)
    (s : State) : s.changesByActions (coverCues f t s) := by
  unfold coverCues
  simp only
  have hl (l : List Cue) (u : State) : u.changesByActions (l.foldl f u) :=
    foldl_keeps (P := State.changesByActions) State.changesByActions.refl State.changesByActions.trans f hf l u
  split
  · refine .trans (hl (s.cues.due t) s) ?_; rfl
  · refine .trans (hl s.cues.restOfDay s) (.trans (b := wrapIndex (s.cues.restOfDay.foldl f s)) rfl ?_)
    exact .trans (hl ((wrapIndex (s.cues.restOfDay.foldl f s)).cues.due t) _) rfl

theorem changesByActions_advance (t : Nat) (s : State) : s.changesByActions (advance t s) :=
  changesByActions_coverCues changesByActions_fire t s

theorem changesByActions_skip (n : Nat) (s : State) : s.changesByActions (skip n s) :=
  changesByActions_coverCues changesByActions_passOver n s

end Sys2Proof.Machine
end

