-- ==== Sys2Proof/Tests/Slice0.lean ====
section
/-! SUPPORT. The model's own tests: what the checks of WellFormed refuse, the worked examples of spec/ one step at a time,
and for each statement with hypotheses a state and operands that meet them, clause by clause. -/

set_option Elab.async false

namespace Sys2Proof.Tests

open Sys2Proof Sys2Proof.Machine

/-! ### Station 4 of the examples -/

/-- Bytes written as numbers. -/
def bytes (l : List Nat) : List Byte := l.map toByte

/-- A record for station 4 of the worked examples (12, The configuration record): window 20..23, announce interval 4 s,
day length 12, start minute 1200, the curve of chapter 03, the levels of chapter 06, the lamps of chapter 07, the carousel
of chapter 08, the listen entries of chapter 09. `mark` is byte 0, `station` byte 1, `balance` byte 23. -/
def record (mark station balance : Nat) : List Byte := bytes (
  [mark, station, 148, 84, 36, 20, 12] ++
  [150, 5, 160, 30, 67, 128, 180] ++
  [15, 68, 75, 20, 75, 85, 105, 0, 4, balance] ++
  [50, 148, 250, 30, 138, 175, 10, 5, 75] ++
  [21, 19, 0, 0, 22, 20, 0, 0, 23, 21, 0, 0, 24, 22, 0, 0] ++ List.replicate 16 0 ++
  [0, 8, 1] ++
  [100, 100, 150, 250] ++ List.replicate 12 0 ++ [6, 255, 255, 255] ++
  [50, 69, 0, 225, 100, 125, 20, 250, 0, 0, 0, 10, 0, 250, 0, 0, 50, 0, 0, 0, 0, 1] ++
  [132, 200, 75, 25, 7, 132, 200, 75, 25, 10] ++
  [202, 30, 144, 0, 2, 128, 30, 15, 164, 206, 128, 30, 240, 0, 31] ++ List.replicate 25 0)

/-- The record of station 4 that passes its check. -/
def record4 : List Byte := record 166 4 229

/-- The settings of station 4, read off the examples. -/
def settings4 : Settings :=
  let slot (b : Nat) (rising falling : Bool) : SlotCfg :=
    { rising := some (b + 1), falling := some (b - 1), risingCode := 0, fallingCode := 0, risingPresent := rising
      fallingPresent := falling, extended := false }
  let unused : SlotCfg :=
    { rising := some 0, falling := some 0, risingCode := 0, fallingCode := 0, risingPresent := false
      fallingPresent := false, extended := false }
  let lamp (g : Group) (fs : Nat) : LampCfg := { configured := fs != 0, group := g, fullScale := fs }
  let mood (m : LampMode) (gain on low high fade : Nat) : GroupCfg :=
    { mode := m, gain := gain, onLevel := on, onThreshold := low, offThreshold := high, fade := fade }
  let rot (current : Nat) : RotCfg :=
    { configured := true, anticlockwise := false, runLevel := 800, creepLevel := 150, ramp := 100
      runCurrent := current, stallTimeout := 4 }
  let entry (origin code : Nat) (a : Action) (relay on : Bool) : ListenEntry :=
    { enabled := on, origin := origin, code := code, action := some a, relay := relay }
  { station := 4, lineRate := 62500, silence := 5, announce := 4, winSize := 4, winBase := 20, dayLength := 12
    startMinute := 1200, timeMark := 2, dawnStart := 360, dawnLength := 60, duskStart := 1080, duskLength := 90
    nightFloor := 30, occThreshold := 4, tripCurrent := 1500
    slots := [slot 20 false true, slot 21 false false, slot 22 false false, slot 23 true false] ++
      List.replicate 4 unused
    holdTime := 20, accStep := 20, approach := 300
    showLevel := { budget := 2000, settle := 200, cap := 1000, rotaries := true }
    economyLevel := { budget := 1200, settle := 100, cap := 700, rotaries := true }
    restLevel := { budget := 400, settle := 50, cap := 300, rotaries := false }
    startLevel := .show, warnTemp := 85, critTemp := 105
    lamps := [lamp .a 200, lamp .a 200, lamp .b 300, lamp .c 500] ++ List.replicate 12 (lamp .d 0)
    groupA := mood .duskSwitch 0 900 400 500 20, groupB := mood .night 1000 0 0 1 10
    groupC := mood .fixed 0 1000 0 1 50, groupD := mood .off 0 0 0 1 1
    rot0 := rot 350, rot1 := rot 500
    listen := [entry 10 30 (.rotaryRun .ch0 2) true true, entry 0 30 (.lampSet .a 1000 (some 1230)) false true,
        entry 0 30 (.showEvent 31) false true] ++ List.replicate 5 (entry 0 0 (.lampSet .a 0 (some 0)) false false)
    mask := { FaultSet.empty with warm := true } }

/-- Station 4 Running on a quiet line at 18:00:00.000, level Show, its records, tables and queues empty. -/
def station4 : State :=
  { State.reset with
    loader := { State.reset.loader with station := .running, port := .finished }
    settings := settings4
    line := { Line.stopped with receiver := .idle, silence := .running 5000 }
    clock := { State.reset.clock with time := 64800000, adopting := false, phase := .dusk, daylight := 1000 }
    blocks := [Block.start 20, Block.start 21, Block.start 22, Block.start 23]
    gov := { State.reset.gov with level := .show, effective := 2000, working := 2000, allowance := 2000 }
    cues := { State.reset.cues with cueTime := 64800000 } }

/-- The same station in another station state. -/
def inState (st : StationState) (s : State) : State := { s with loader := { s.loader with station := st } }

/-- A message from `src`, arrived at 18:00:00.000. -/
def msg (src : Nat) (k : Kind) (body : List Nat) : InMsg :=
  { dest := 4, src := src, kind := k, body := bytes body, stamp := 64800000 }

/-- The state with this message alone in the inbound queue. -/
def hears (s : State) (m : InMsg) : State := { s with line := { s.line with inbound := [m] } }

/-- What a command leaves of a state, seen through `f`; none if it stops. -/
def sees {α : Type} (c : Instr) (s : State) (f : State → α) : Option α :=
  match exec c s with
  | .next t => some (f t)
  | .fault _ => none
  | .refused _ => none

/-- The same for a command that takes this message. -/
def seesOf {α : Type} (c : Instr) (s : State) (m : InMsg) (f : State → α) : Option α := sees c (hears s m) f

/-- The block records with one of them in this state. -/
def withBlock (b : Nat) (st : BlockState) (s : State) : State := setBlockState b st s

/-- The records, claims and view of the train table. -/
def withTrains (r : List Train) (c : List PClaim) (v : List ViewEntry) (s : State) : State :=
  { s with trains := { records := r, claims := c, view := v, nextTicket := 1 } }

/-- A train record running on these blocks. -/
def train (n : Nat) (d : Dir) (target present : Nat) (trail : List Nat) : Train :=
  { num := n, dir := d, target := target, present := present, trail := trail, stopReached := false, leaving := false
    enteredFrom := none, reversal := .none }

/-- A reservation by this train and station. -/
def held (n station level : Nat) (d : Dir) (origin : Option Nat) : Reservation :=
  { train := n, station := station, expiry := 20000, level := level, dir := d, origin := origin }

/-- An entry of the peer table, as settled for window 20..23. -/
def peer (n base size age : Nat) (fresh : Bool) : Peer :=
  Peer.settled settings4 { station := n, base := base, size := size, age := age, fresh := fresh, clash := false }

/-- The state with this peer table. -/
def withPeers (ps : List Peer) (s : State) : State := { s with peers := { entries := ps, overflow := false } }

/-- A rotary channel in this state. -/
def rotary (st : RotState) (remaining drive : Nat) (held stall : Option Nat) (park : Bool) : Rotary :=
  { state := st, remaining := remaining, parkOnly := park, drive := drive, heldTimer := held, stallTimer := stall }

/-- The state with channel 0 so, channel 1 parked. -/
def withRotary (r : Rotary) (s : State) : State := { s with rotary := { ch0 := r, ch1 := .parked } }

/-- The state with the line controller changed. -/
def withLine (f : Line → Line) (s : State) : State := { s with line := f s.line }

/-- A queue whose head is this message on this attempt, with `n` more of the same behind it. -/
def queue (m : OutMsg) (attempt slots : Nat) (inHand : Bool) (n : Nat) : OutQueue :=
  { head := some { msg := m, attempt := attempt, slots := slots, inHand := inHand, counting := true }
    rest := List.replicate n m }

/-- The Claim of the line example (12): block 20 from station 3 for train 7 at level 300, Forward, origin block 19. -/
def claim300 : OutMsg := outMsg 4 .claim (bytes [20, 7, 1, 44, 1, 1, 19])

/-! ### The checks on operands -/

theorem test_wellFormed_record : (Instr.configurationReadComplete record4).wellFormed = true ∧
    (Instr.configurationReadComplete (record4.drop 1)).wellFormed = false := by decide +kernel
theorem test_wellFormed_moves : (Instr.leadCharacter 4 9).wellFormed = true ∧
    (Instr.leadCharacter 4 10).wellFormed = false := by decide
theorem test_wellFormed_currents :
    (Instr.detectorSample (List.replicate 7 0) (List.replicate 8 ⟨false, false⟩)).wellFormed = false := by decide
theorem test_wellFormed_sensors :
    (Instr.detectorSample (List.replicate 8 0) (List.replicate 9 ⟨false, false⟩)).wellFormed = false := by decide
theorem test_wellFormed_cooloff : (Instr.cooloffEnd 255).wellFormed = true ∧ (Instr.cooloffEnd 256).wellFormed = false := by
  decide
theorem test_wellFormed_expiry : (Instr.reservationExpiry 256).wellFormed = false := by decide
theorem test_wellFormed_answer : (Instr.answerTimeout 0).wellFormed = false ∧ (Instr.answerTimeout 128).wellFormed = false := by
  decide
theorem test_wellFormed_retry : (Instr.retryWaitEnd 127).wellFormed = true ∧ (Instr.retryWaitEnd 0).wellFormed = false ∧
    (Instr.retryWaitEnd 128).wellFormed = false := by decide

/-- The table gives no row any bits. -/
theorem test_no_word : decodeTableWord 0 0 = none ∧ decodeTableWord 8 255 = none := by decide

/-- An ill-formed command changes nothing (log 24). -/
theorem test_ill_formed_idle : sees (.leadCharacter 4 10) station4 id = some station4 := by decide +kernel

/-- The front command runs and the rest waits (log 1). -/
theorem test_step_front : step { station4 with pending := [.idleTime, .slot] } = .next { station4 with pending := [.slot] } := rfl

/-! ### Configuration (11, 12) -/

/-- R190, R199: every setting of the record, and its checks. -/
theorem test_settings : settingsOf record4 = settings4 ∧ recordPasses record4 = true ∧ record4.length = 160 := by
  decide +kernel
theorem test_record_station : recordPasses (record 166 64 169) = false ∧
    recordPasses (record 165 4 230) = false := by decide +kernel
/-- R55, its own example: Ds 1400, Dl 90, Ks 600, Kl 100. -/
theorem test_curve : curveOf 1400 90 600 100 = (1400, 39, 1439, 1) := by decide
/-- 11, the example: 20:00 at the start, adoption pending. -/
theorem test_configuration : sees (.configurationReadComplete record4) State.reset (fun t =>
    (t.loader.station, t.clock.time, t.clock.adopting, t.gov.effective, t.blockNumbers)) =
    some (.listening, 72000000, true, 2000, [20, 21, 22, 23]) := by decide +kernel
/-- 11, the example: a transaction not acknowledged lasts 11 clock periods, and the wait 1000. -/
theorem test_memory_failure : sees (.memoryTransactionFailure .deviceWriteNoAck) State.reset (fun t =>
    (t.loader.port, t.loader.stopSent, t.loader.periods)) = some (.waiting, true, 11) := by decide +kernel
/-- R189: the device address 1010011 with the write direction, most significant bit first, read while the clock is high,
then the acknowledge bit low; a start and a stop condition are edges of the data line while the clock is high. -/
theorem test_port_levels :
    ((PortStage.send 0b10100110 true).levels.filter fun l => l.clock).map (fun l => l.data) =
      [true, false, true, false, false, true, true, false, false] ∧
    PortStage.start.levels = [⟨true, true⟩, ⟨true, false⟩] ∧
    PortStage.stop.levels.drop 1 = [⟨true, false⟩, ⟨true, true⟩] := by decide +kernel
theorem test_memory_wait : sees .memoryRetryWaitEnd
    { State.reset with loader := { State.reset.loader with port := .waiting, periods := 11 } } (fun t =>
    (t.loader.port, t.loader.transaction, t.loader.periods)) = some (.reading, 2, 1011) := by decide +kernel
theorem test_power_on : sees .powerOn station4 id = some State.reset := by decide +kernel
theorem test_listening_end : sees .listeningWindowEnd (inState .listening station4) (fun t =>
    (t.loader.station, t.line.routine.msgs.map fun m => m.kind)) = some (.running, [.announce]) := by decide +kernel
theorem test_restart : seesOf .restart { station4 with counters := Counters.zero.bump .cut } (msg 60 .restart []) (fun t =>
    (t.loader.station, t.counters.cut.count, t.line.inbound)) = some (.loading, 1, []) := by decide +kernel

/-! ### The line (01, 12) -/

/-- 12, one Claim on the line: the twelve characters, the check 148. -/
theorem test_claim_characters : messageChars 3 claim300 = bytes [4, 3, 1, 7, 20, 7, 1, 44, 1, 1, 19, 148] := by
  decide +kernel
theorem test_claim_bits : (messageBits (messageChars 3 claim300)).length = 132 ∧ bitTimeUs 62500 * 132 = 2112 := by
  decide +kernel
theorem test_time_bytes : bytes4 64812000 = bytes [3, 220, 243, 224] := by decide +kernel
/-- The same characters, received: an aligned receiver takes the Claim whole. -/
theorem test_message_complete : sees (.messageComplete 148)
    (withLine (fun l => { l with receiver := .opened (bytes [4, 3, 1, 7, 20, 7, 1, 44, 1, 1, 19]) 64800000 }) station4)
    (fun t => (t.line.receiver, t.line.inbound, t.line.silence)) =
    some (.idle, [msg 3 .claim [20, 7, 1, 44, 1, 1, 19]], .running 5000) := by decide +kernel
theorem test_check_error : sees (.messageComplete 147)
    (withLine (fun l => { l with receiver := .opened (bytes [4, 3, 1, 7, 20, 7, 1, 44, 1, 1, 19]) 64800000 }) station4)
    (fun t => (t.line.inbound, t.counters.checkErr.count)) = some ([], 1) := by decide +kernel
theorem test_lead_character : sees (.leadCharacter 4 0) station4 (fun t => t.line.receiver) =
    some (.opened [4] 64800000) := by decide +kernel
theorem test_lead_above_63 : sees (.leadCharacter 64 0) station4 (fun t => (t.line.receiver, t.counters.malformed.count)) =
    some (.skipping, 1) := by decide +kernel
theorem test_data_own_source : sees (.dataCharacter 4)
    (withLine (fun l => { l with receiver := .opened [0] 0 }) station4)
    (fun t => (t.line.receiver, t.counters.malformed.count)) = some (.skipping, 1) := by decide +kernel
theorem test_idle_time : sees .idleTime (withLine (fun l => { l with receiver := .hunting }) station4)
    (fun t => t.line.receiver) = some .idle := by decide +kernel
theorem test_framing : sees .framingError (withLine (fun l => { l with receiver := .opened [4] 0 }) station4)
    (fun t => (t.line.receiver, t.counters.framing.count)) = some (.hunting, 1) := by decide +kernel

/-- Station `n` of the collision example with its Claim on attempt `k`. -/
def collider (n k : Nat) : State :=
  let s := withLine (fun l => { l with urgent := queue claim300 k 0 true 0, tx := .sending true [] }) station4
  { s with settings := { settings4 with station := n } }

/-- 01, the collision example: 6 slots at both stations after the first, 6 and 2 after the second. -/
theorem test_collision : [collider 5 1, collider 12 1, collider 5 2, collider 12 2].map (fun s =>
    sees .collision s fun t => t.line.urgent.head.map fun h => (h.attempt, h.slots)) =
    [some (some (2, 6)), some (some (2, 6)), some (some (3, 6)), some (some (3, 2))] := by decide +kernel
theorem test_give_up : sees .collision (collider 5 8) (fun t =>
    (t.line.urgent.msgs, t.counters.collisions.count, t.counters.giveUps.count)) = some ([], 1, 1) := by decide +kernel
theorem test_message_sent : sees .messageSent (collider 5 3) (fun t => (t.line.urgent.msgs, t.line.tx)) =
    some ([], .quiet) := by decide +kernel
theorem test_break_end : sees .breakEnd (withLine (fun l => { l with tx := .breaking }) station4)
    (fun t => (t.line.tx, t.line.receiver)) = some (.quiet, .hunting) := by decide +kernel
theorem test_line_idle : sees .lineIdleComplete (withLine (fun l => { l with urgent := queue claim300 2 6 true 0 }) station4)
    (fun t => (t.line.idleDone, t.line.urgent.head.map fun h => h.slots)) = some (true, some 6) := by decide +kernel
theorem test_slot : sees .slot
    (withLine (fun l => { l with urgent := queue claim300 2 6 true 0, idleDone := true }) station4)
    (fun t => t.line.urgent.head.map fun h => h.slots) = some (some 5) := by decide +kernel
theorem test_attempt_start : sees .attemptStart
    (withLine (fun l => { l with urgent := queue claim300 1 0 false 0, idleDone := true })
      { station4 with settings := { settings4 with station := 3 } })
    (fun t => t.line.tx) = some (.sending true (bytes [4, 3, 1, 7, 20, 7, 1, 44, 1, 1, 19, 148])) := by decide +kernel
theorem test_line_stuck : sees .lineStuck station4 (fun t =>
    (t.line.cond, t.line.receiver, t.faults.active.lineStuck, t.line.routine.msgs)) =
    some (.stuck, .hunting, true, [outMsg 0 .faultNotice (bytes [1, 0, 0])]) := by decide +kernel
theorem test_silence_stuck : sees .silenceTimeout (withLine (fun l => { l with cond := .stuck }) station4)
    (fun t => (t.line.cond, t.line.silence)) = some (.stuck, .ranOut) := by decide +kernel

/-! ### Peers (02) -/

/-- 02, the clash example: station 9's window 16..23 meets 20..23, its entry carries the mark, and its block set is
20..23. -/
theorem test_clash_marks : settleMarks settings4 [peer 3 16 4 1 true, peer 5 24 4 2 true, peer 9 16 8 0 true] =
    [⟨3, 16, 4, 1, true, false⟩, ⟨5, 24, 4, 2, true, false⟩, ⟨9, 16, 8, 0, true, true⟩] := by decide +kernel
theorem test_blocked_set : station4.blockNumbers.filter (inBlockedSet [peer 3 16 4 1 true, peer 9 16 8 0 true]) =
    [20, 21, 22, 23] ∧ station4.blockNumbers.filter (inBlockedSet [peer 3 16 4 1 true]) = [] := by decide +kernel
/-- The same example: the lookups of block 19 with station 9 Fresh and Stale. -/
theorem test_lookup : (withPeers [peer 3 16 4 1 true, peer 9 16 8 0 true] station4).lookupOwner 19 = .ambiguous ∧
    (withPeers [peer 3 16 4 1 true, peer 9 16 8 12 false] station4).lookupOwner 19 = .found 3 := by decide +kernel
/-- AGE_STEP at one entry: Stale at age 12. -/
theorem test_age_step : ((peer 9 16 8 10 true).aged settings4).fresh = true ∧
    ((peer 9 16 8 11 true).aged settings4).fresh = false := by decide +kernel

/-- A full table whose Stale entries are those of stations 30 and 41, both at age 40. -/
def fullTable : List Peer :=
  (List.range 16).map fun i =>
    let n := if i = 14 then 30 else if i = 15 then 41 else i + 10
    peer n 100 1 (if n = 30 ∨ n = 41 then 40 else 1) (n ≠ 30 ∧ n ≠ 41)

/-- ANNOUNCE into a full table: station 30's entry goes. -/
theorem test_announce_replaces : (peersAfter 9 ⟨16, 8, true, 5⟩ fullTable).map (fun ps => ps.map fun p => p.station) =
    some ([9] ++ (List.range 14).map (fun i => i + 10) ++ [41]) := by decide +kernel
theorem test_announce_malformed : seesOf .announce station4 (msg 9 .announce [16, 3, 0, 0, 2, 5]) (fun t =>
    (t.peers.entries, t.counters.malformed.count)) = some ([], 1) := by decide +kernel
/-- Its own settings give the Announce: window 20 of 4, four lamps, two rotaries, Running, code 5. -/
theorem test_announce_interval : sees .announceInterval station4 (fun t => t.line.routine.msgs) =
    some [outMsg 0 .announce (bytes [20, 4, 4, 2, 2, 5])] := by decide +kernel

/-! ### Scene clock (03) -/

/-- The catching-up example: the take and its first step. -/
theorem test_time_mark_owed : seesOf .timeMark station4 (msg 3 .timeMark [3, 220, 243, 224, 5]) (fun t =>
    (t.clock.time, t.clock.owed)) = some (64800000, 12000) := by decide +kernel
theorem test_clock_step : sees .clockStep { station4 with clock := { station4.clock with owed := 12000 } } (fun t =>
    (t.clock.time, t.clock.owed, t.cues.cueTime)) = some (64802400, 10800, 64802400) := by decide +kernel
/-- The same example with a mark of 70,000,000 and one step between arrival and take. -/
theorem test_time_mark_jump : seesOf .timeMark
    { station4 with clock := { station4.clock with time := 64801200 }, cues := { station4.cues with cueTime := 64801200 } }
    (msg 3 .timeMark [4, 44, 29, 128, 5]) (fun t => (t.clock.time, t.clock.owed, t.clock.jumps)) =
    some (70001200, 0, true) := by decide +kernel
theorem test_time_mark_interval : sees .timeMarkInterval station4 (fun t => t.line.routine.msgs.map fun m => m.kind) =
    some [.timeMark] := by decide +kernel
/-- The daylight table. -/
theorem test_daylight : [18000, 21600, 23400, 25199, 25200, 64800, 67500, 70199, 70200].map
    (fun t => (phaseAt settings4 (t * 1000), daylightAt settings4 (t * 1000))) =
    [(.night, 30), (.dawn, 30), (.dawn, 515), (.dawn, 999), (.day, 1000), (.dusk, 1000), (.dusk, 515), (.dusk, 31),
      (.night, 30)] := by decide +kernel

/-! ### Blocks and trains (04, 05) -/

/-- Station 4 of 04's example: block 23 Reserved for train 12 of station 5, 15 s in. -/
def reserved23 : State := withBlock 23 (.reserved (held 12 5 300 .reverse (some 24))) station4

/-- CLAIM, rows at 0 s and 3 s. -/
theorem test_claim_grant : seesOf .claim station4 (msg 5 .claim [23, 12, 1, 44, 2, 1, 24]) (fun t =>
    (t.blockState 23, t.line.urgent.msgs, t.line.routine.msgs)) =
    some (some (.reserved (held 12 5 300 .reverse (some 24))), [outMsg 0 .grant (bytes [23, 12, 5])],
      [outMsg 0 .blockState (bytes [23, 1, 12, 4])]) := by decide +kernel
theorem test_claim_busy : seesOf .claim reserved23 (msg 8 .claim [23, 3, 1, 44, 2, 1, 24]) (fun t =>
    (t.line.urgent.msgs, t.line.routine.msgs)) = some ([outMsg 8 .refuse (bytes [4, 23, 3])], []) := by decide +kernel
/-- RELEASE, the row at 16 s, and one by the holder. -/
theorem test_release_other : seesOf .release reserved23 (msg 8 .release [23, 3]) (fun t => t.blocks) =
    some reserved23.blocks := by decide +kernel
theorem test_release_holder : seesOf .release reserved23 (msg 5 .release [23, 12]) (fun t => (t.blockState 23,
    t.line.routine.msgs)) = some (some .free, [outMsg 0 .blockState (bytes [23, 0, 0, 4])]) := by decide +kernel
theorem test_reservation_expiry : sees (.reservationExpiry 23) reserved23 (fun t => (t.blockState 23,
    t.line.routine.msgs)) = some (some .free, [outMsg 0 .blockState (bytes [23, 0, 0, 4])]) := by decide +kernel
/-- The row at 21 s: the entry makes train 12's record, at the claim's level, entered from block 24. -/
theorem test_entry : (occupancyDeclared 23 reserved23).trains.records =
    [{ train 12 .reverse 300 300 [23] with enteredFrom := some 24 }] ∧
    (occupancyDeclared 23 reserved23).blockState 23 = some (.occupied 12) := by decide +kernel
/-- The third high sample in a row declares occupancy. -/
theorem test_detector_sample : sees (.detectorSample [0, 0, 0, 4, 0, 0, 0, 0] (List.replicate 8 ⟨false, false⟩))
    { reserved23 with blocks := reserved23.blocks.map fun r => if r.number = 23 then { r with highRun := 2 } else r }
    (fun t => t.blocks.map fun r => (r.detOccupied, r.sample)) =
    some [(false, 0), (false, 0), (false, 0), (true, 4)] := by decide +kernel
theorem test_cooloff_end : sees (.cooloffEnd 21)
    { station4 with blocks := [{ Block.start 21 with coolOff := some 2000 }] } (fun t => t.blocks) =
    some [Block.start 21] := by decide +kernel
theorem test_train_place : seesOf .trainPlace (withBlock 21 .intruded station4) (msg 60 .trainPlace [21, 7, 2]) (fun t =>
    (t.blockState 21, t.trains.records)) = some (some (.occupied 7), [train 7 .reverse 0 0 [21]]) := by decide +kernel
theorem test_train_place_vacant : seesOf .trainPlace station4 (msg 60 .trainPlace [21, 7, 2]) (fun t =>
    t.line.urgent.msgs) = some [outMsg 60 .refuse (bytes [7, 21, 7])] := by decide +kernel

/-- A claim of train 7 for block 24, owned by station 5. -/
def claim24 (st : ClaimState) : PClaim := { block := 24, train := 7, owner := some 5, level := 300, state := st }

/-- Station 4 with train 7 on block 23, running toward station 5's block 24 with its claim so. -/
def crossing (st : ClaimState) : State :=
  withTrains [train 7 .forward 500 500 [23]] [claim24 st] []
    (withBlock 23 (.occupied 7) (withPeers [peer 5 24 4 2 true] station4))

/-- 05, row 4 of the first example. -/
theorem test_grant : seesOf .grant (crossing (.sent 0 (some 2000))) (msg 5 .grant [24, 7, 4]) (fun t => t.trains.claims) =
    some [claim24 .granted] := by decide +kernel
theorem test_grant_unwanted : seesOf .grant station4 (msg 5 .grant [24, 7, 4]) (fun t => t.line.urgent.msgs) =
    some [outMsg 5 .release (bytes [24, 7])] := by decide +kernel
theorem test_refuse_occupied : seesOf .refuse (crossing (.sent 0 (some 2000))) (msg 5 .refuse [5, 24, 7]) (fun t =>
    t.trains.claims) = some [claim24 (.queued (some 1000) none)] := by decide +kernel
theorem test_refuse_not_owner : seesOf .refuse (crossing (.sent 0 (some 2000))) (msg 5 .refuse [1, 24, 7]) (fun t =>
    t.trains.claims) = some [claim24 (.queued none (some 5))] := by decide +kernel
/-- R98: Vacant is a listed reason, so a match in Sent returns to Queued; with no wait (log 13). -/
theorem test_refuse_vacant : seesOf .refuse (crossing (.sent 0 (some 2000))) (msg 5 .refuse [7, 24, 7]) (fun t =>
    t.trains.claims) = some [claim24 (.queued none none)] := by decide +kernel
theorem test_answer_timeout : sees (.answerTimeout 7) (crossing (.sent 0 (some 2000))) (fun t => t.trains.claims) =
    some [claim24 (.queued (some 1000) none)] := by decide +kernel
theorem test_retry_wait_end : sees (.retryWaitEnd 7) (crossing (.queued (some 1000) none)) (fun t => t.trains.claims) =
    some [claim24 (.queued none none)] := by decide +kernel
/-- Row 9: the owner's Occupied report completes the claim and makes the record Leaving. -/
theorem test_block_state_occupied : seesOf .blockState (crossing .granted) (msg 5 .blockState [24, 2, 7, 5]) (fun t =>
    (t.trains.claims, t.trains.records.map fun x => x.leaving, t.trains.view)) =
    some ([], [true], [⟨24, .occupied, 7, 5, 0⟩]) := by decide +kernel
/-- Row 6' of the second example: the Free report returns the claim to Queued with its retry wait. -/
theorem test_block_state_free : seesOf .blockState (crossing .granted) (msg 5 .blockState [24, 0, 0, 5]) (fun t =>
    t.trains.claims) = some [claim24 (.queued (some 1000) none)] := by decide +kernel
/-- Row 5: of the ten speed steps toward the approach speed, the first. -/
theorem test_speed_step : sees .speedStep (crossing .granted) (fun t => t.trains.records.map fun x => x.present) =
    some [480] := by decide +kernel
/-- Row 8' of the second example: a claim free to go is sent at the speed step, at level min(40, 300). -/
theorem test_speed_step_claims : sees .speedStep
    (withTrains [train 7 .forward 40 0 [23]] [claim24 (.queued none none)] []
      (withBlock 23 (.occupied 7) (withPeers [peer 5 24 4 2 true] station4)))
    (fun t => t.line.urgent.msgs.map fun m => (m.dest, m.body)) =
    some [(5, bytes [24, 7, 0, 40, 1, 1, 23])] := by decide +kernel
theorem test_order_speed : seesOf .trainOrderSpeed (crossing .granted) (msg 60 .trainOrder [7, 1, 0, 40]) (fun t =>
    t.trains.records.map fun x => (x.target, x.present)) = some [(40, 500)] := by decide +kernel
theorem test_order_stop : seesOf .trainOrderStop (crossing .granted) (msg 60 .trainOrder [7, 2, 0, 0]) (fun t =>
    t.trains.records.map fun x => (x.target, x.present)) = some [(0, 500)] := by decide +kernel
theorem test_order_reverse : seesOf .trainOrderReverse (crossing .granted) (msg 60 .trainOrder [7, 3, 0, 0]) (fun t =>
    t.trains.records.map fun x => (x.dir, x.target, x.reversal)) = some [(.forward, 0, .pending)] := by decide +kernel
theorem test_order_remove : seesOf .trainOrderRemove (crossing .granted) (msg 60 .trainOrder [7, 4, 0, 0]) (fun t =>
    (t.trains.records, t.trains.claims, t.blockState 23, t.line.urgent.msgs)) =
    some ([], [], some .intruded, [outMsg 5 .release (bytes [24, 7])]) := by decide +kernel

/-! ### Governor, lamps, rotaries (06, 07, 08) -/

/-- The evening of budgets: two trains' samples and the carousel at its run level. -/
def evening (level : PowerLevel) (effective : Nat) (temp : TempState) (r : Rotary) : State :=
  let s := withRotary r station4
  { s with
    blocks := [{ Block.start 20 with sample := 420 }, { Block.start 21 with sample := 380 }, .start 22, .start 23]
    gov := { s.gov with level := level, effective := effective, temp := temp } }

/-- The row at 72 °C: channel 1 is admitted, Q becomes 850 and the allowance 350. -/
theorem test_governor_admits : sees (.governorStep 72)
    { evening .show 2000 .normal (rotary .running 3 800 none (some 4000) false) with
      rotary := { ch0 := rotary .running 3 800 none (some 4000) false, ch1 := rotary .held 2 0 (some 30000) none false } }
    (fun t => (t.gov.working, t.gov.boosterB, t.rotaryQ, t.gov.allowance, t.rotary.ch1.state)) =
    some (2000, 800, 850, 350, .starting) := by decide +kernel
/-- The rows at 90 °C and 106 °C of the Rest level. -/
theorem test_governor_trips : [(1200, (90 : Int)), (1150, 106)].map (fun x => sees (.governorStep x.2)
    (evening .rest x.1 .warm (rotary .stopping 0 700 none none false)) fun t =>
      (t.gov.temp, t.gov.effective, t.gov.working, t.gov.allowance, t.rotary.ch0.state)) =
    [some (.warm, 1150, 862, 0, .stopping), some (.tripped, 1100, 0, 0, .halted)] := by decide +kernel
theorem test_power_order : seesOf .powerOrder (evening .economy 1200 .warm (rotary .running 3 800 none (some 4000) false))
    (msg 60 .powerOrder [3]) (fun t => (t.gov.level, t.gov.effective, t.rotary.ch0.state)) =
    some (.rest, 1200, .stopping) := by decide +kernel

/-- The evening street: the present levels of the example. -/
def street (allowance : Nat) : State :=
  let lit (n : Nat) : LampChannel := { requested := n, present := n, wanted := 0, duty := 0 }
  { station4 with
    clock := { station4.clock with time := 68976000, daylight := 250 }
    gov := { station4.gov with allowance := allowance }
    lamps := { Lamps.dark with
      channels := [lit 900, lit 900, lit 750, lit 1000] ++ List.replicate 12 (lit 0)
      a := { latch := true, override := none } } }

/-- The wanted duties and the output duties at 850 mA and at 350 mA. -/
theorem test_lamp_step : sees .lampStep (street 850) (fun t => (t.lampOutputs.take 4,
    (t.lamps.channels.map fun c => c.wanted).take 4)) = some ([692, 692, 480, 855], [810, 810, 562, 1000]) := by
  decide +kernel
theorem test_lamp_step_warm : sees .lampStep (street 350) (fun t => t.lampOutputs.take 4) =
    some [285, 285, 198, 352] := by decide +kernel
/-- An override across a jump: group C to 200 until minute 1140. -/
theorem test_lamp_order_set : seesOf .lampOrderSet
    { station4 with clock := { station4.clock with time := 67800000 } }
    (msg 60 .lampOrder [2, 1, 0, 200, 4, 116]) (fun t => t.lamps.c.override) =
    some (some { level := 200, ending := some (1140, 67800000) }) := by decide +kernel
theorem test_override_watch : (Override.watch 73800000 { level := 200, ending := some (1140, 68100000) } = none) ∧
    (Override.watch 73800000 { level := 200, ending := some (1140, 68430000) } =
      some { level := 200, ending := some (1140, 73800000) }) := by decide +kernel
theorem test_lamp_order_clear : seesOf .lampOrderClear
    { station4 with lamps := { Lamps.dark with b := { latch := false, override := some ⟨200, none⟩ } } }
    (msg 60 .lampOrder [1, 2, 0, 0, 0, 0]) (fun t => t.lamps.b.override) = some none := by decide +kernel

/-- The carousel evening, row by row. -/
theorem test_rotary_run : seesOf .rotaryOrderRun station4 (msg 60 .rotaryOrder [0, 1, 0, 3]) (fun t => t.rotary.ch0) =
    some (rotary .held 3 0 (some 30000) none false) := by decide +kernel
theorem test_rotary_rerun : seesOf .rotaryOrderRun (withRotary (rotary .stopping 0 500 none none false) station4)
    (msg 60 .rotaryOrder [0, 1, 0, 2]) (fun t => t.rotary.ch0) = some (rotary .starting 2 500 none none false) := by
  decide +kernel
theorem test_rotary_step : [rotary .starting 3 700 none none false, rotary .stopping 0 200 none none false].map
    (fun r => sees .rotaryStep (withRotary r station4) fun t => t.rotary.ch0) =
    [some (rotary .running 3 800 none (some 4000) false), some (rotary .seeking 0 150 none (some 4000) false)] := by
  decide +kernel
theorem test_index_pulse : [rotary .running 3 800 none (some 4000) false, rotary .running 1 800 none (some 4000) false,
      rotary .seeking 0 150 none (some 4000) false].map
    (fun r => sees (.indexPulse .ch0) (withRotary r station4) fun t => t.rotary.ch0) =
    [some (rotary .running 2 800 none (some 4000) false), some (rotary .stopping 0 800 none none false),
      some Rotary.parked] := by decide +kernel
/-- The carousel jams while seeking; the Clear order; the trip during the ramp down. -/
theorem test_stall : sees (.stallTimerExpiry .ch0) (withRotary (rotary .seeking 0 150 none (some 4000) false) station4)
    (fun t => (t.rotary.ch0, t.faults.active.stall)) = some (rotary .stalled 0 0 none none false, true) := by
  decide +kernel
theorem test_rotary_clear : seesOf .rotaryOrderClear
    { withRotary (rotary .stalled 0 0 none none false) station4 with
      faults := { active := FaultSet.empty.set .stall true, fresh := .empty } }
    (msg 60 .rotaryOrder [0, 3, 0, 0]) (fun t => (t.rotary.ch0, t.faults.active.stall)) = some (.parked, false) := by
  decide +kernel
theorem test_rotary_trip : (rotary .stopping 0 500 none none false).trip = rotary .halted 0 0 none none true := by decide
theorem test_rotary_stop : seesOf .rotaryOrderStop (withRotary (rotary .held 3 0 (some 30000) none false) station4)
    (msg 60 .rotaryOrder [0, 2, 0, 0]) (fun t => t.rotary.ch0) = some .parked := by decide +kernel
theorem test_held_timer : sees (.heldTimerExpiry .ch0) (withRotary (rotary .held 3 0 (some 30000) none false) station4)
    (fun t => (t.rotary.ch0, t.faults.active.heldAbandoned)) = some (.parked, true) := by decide +kernel

/-! ### Cues (09) -/

/-- The eight cues of the evening passed over. -/
def eveningCues : List Cue :=
  [⟨1080, .lampSet .a 800 (some 1140)⟩, ⟨1080, .showEvent 21⟩, ⟨1095, .rotaryRun .ch0 3⟩, ⟨1110, .power .economy⟩,
    ⟨1140, .trainSpeed 7 200⟩, ⟨1170, .lampClear .b⟩, ⟨1200, .power .rest⟩, ⟨1320, .lampSet .c 100 none⟩]

/-- Station 4 at 17:30:01.200 with these cues. -/
def eveningStation : State :=
  { station4 with
    clock := { station4.clock with time := 63001200 }
    cues := { station4.cues with cues := eveningCues, cueTime := 63001200 } }

/-- The skip to 19:20:01.200. -/
theorem test_skip : (skip 69601200 eveningStation).cues.index = 5 ∧ (skip 69601200 eveningStation).cues.missed = 3 ∧
    (skip 69601200 eveningStation).gov.level = .economy ∧ (skip 69601200 eveningStation).lamps.a.override = none ∧
    (skip 69601200 eveningStation).rotary = .parked := by decide +kernel
/-- The console's load of one cue, minute 1160, group D to 500: after the skip and before it. -/
theorem test_cue_load : [(5, 69601200), (0, 63001200)].map (fun x => seesOf .cueLoad
      { eveningStation with cues := { eveningStation.cues with index := x.1, cueTime := x.2 } }
      (msg 60 .cueLoad [1, 4, 136, 55, 215, 255]) fun t => (t.cues.cues.length, t.cues.cues[5]?, t.cues.index)) =
    [some (9, some ⟨1160, .lampSet .d 500 none⟩, 6), some (9, some ⟨1160, .lampSet .d 500 none⟩, 0)] := by decide +kernel
/-- A load of 1 above the 32 cues the list holds is refused. -/
theorem test_cue_load_full : seesOf .cueLoad
    { station4 with cues := { station4.cues with cues := List.replicate 32 ⟨1200, .lampClear .b⟩ } }
    (msg 60 .cueLoad [1, 4, 136, 55, 215, 255]) (fun t => (t.cues.cues.length, t.line.routine.msgs)) =
    some (32, [outMsg 0 .faultNotice (bytes [9, 0, 32])]) := by decide +kernel
theorem test_cue_clear : seesOf .cueClear eveningStation (msg 60 .cueClear []) (fun t => (t.cues.cues, t.cues.index)) =
    some ([], 0) := by decide +kernel
/-- SHOW_EVENT at a station with the listen entries of stations 11 and 12: the carousel, group A, the own event of hop 1,
and the relay. -/
theorem test_show_event : seesOf .showEvent station4 (msg 10 .showEvent [30, 10, 0]) (fun t =>
    (t.rotary.ch0.remaining, t.lamps.a.override, t.cues.own, t.line.routine.msgs)) =
    some (2, some ⟨1000, some (1230, 64800000)⟩, [⟨31, 4, 1⟩], [outMsg 0 .showEvent (bytes [30, 10, 1])]) := by
  decide +kernel
/-- The own event is matched against the own table, where nothing matches it. -/
theorem test_own_event : matchListen ⟨31, 4, 1⟩ station4 = station4 := by decide +kernel
theorem test_own_event_idle : sees .ownEvent station4 id = some station4 := by decide +kernel

/-! ### Reports (10) -/

/-- Station 4 with Short and Warm started. -/
def faulty : State :=
  let f := (FaultSet.empty.set .short true).set .warm true
  { station4 with faults := { active := f, fresh := f } }

theorem test_query_status : seesOf .queryStatus faulty (msg 60 .query [1, 0]) (fun t =>
    (t.faults.active, t.faults.fresh, t.faultLamp)) = some (FaultSet.empty.set .warm true, .empty, true) := by decide +kernel
theorem test_status_report : statusReport faulty = bytes [1, 4, 1, 4, 3, 220, 197, 0, 1, 1, 0, 36, 0, 36, 0, 0] := by
  decide +kernel
theorem test_query_counters : seesOf .queryCounters { station4 with counters := Counters.zero.bump .cut }
    (msg 60 .query [4, 1]) (fun t => (t.counters, t.line.routine.msgs.map fun m => m.body)) =
    some (.zero, [bytes [4, 0, 0, 1, 0, 0, 0, 0, 0, 0, 0, 0]]) := by decide +kernel
theorem test_query_blocks : seesOf .queryBlocks reserved23 (msg 60 .query [2, 0]) (fun t =>
    t.line.routine.msgs.map fun m => m.body) = some [bytes [2, 20, 4, 0, 0, 0, 0, 0, 0, 1, 12]] := by decide +kernel
theorem test_query_trains : seesOf .queryTrains station4 (msg 60 .query [3, 0]) (fun t =>
    t.line.routine.msgs.map fun m => m.body) = some [bytes [3, 0, 0, 0]] := by decide +kernel
/-- R181: train 7, Forward, Approaching, target and present 500, one trail block 23, no entered-from, no reversal pending,
its claim Granted for block 24 of station 5. -/
theorem test_query_trains_record : seesOf .queryTrains (crossing .granted) (msg 60 .query [3, 0]) (fun t =>
    t.line.routine.msgs.map fun m => m.body) = some [bytes
      [3, 1, 0, 0, 7, 1, 2, 1, 244, 1, 244, 1, 23, 0, 0, 0, 0, 0, 0, 0, 3, 24, 5]] := by decide +kernel
theorem test_query_cues : seesOf .queryCues eveningStation (msg 60 .query [5, 0]) (fun t =>
    t.line.routine.msgs.map fun m => m.body) = some [bytes [5, 8, 0]] := by decide +kernel
theorem test_query_peers : seesOf .queryPeers (withPeers fullTable station4) (msg 60 .query [6, 0]) (fun t =>
    t.line.routine.msgs.map fun m => m.body) = some [bytes [6, 16, 14]] := by decide +kernel
theorem test_report : seesOf .report station4 (msg 5 .report [5, 0, 0]) id = some station4 := by decide +kernel
theorem test_fault_notice : seesOf .faultNotice station4 (msg 5 .faultNotice [6, 0, 24]) id = some station4 := by
  decide +kernel
/-- A command that takes a message of another kind has no effect (log 2). -/
theorem test_stray_claim : seesOf .claim station4 (msg 5 .report [5, 0, 0]) id = some (hears station4 (msg 5 .report [5, 0, 0])) := by
  decide +kernel

/-! ### Witnesses

For each statement with hypotheses, states and operands that meet them, clause by clause and at the ends of ranges. -/

/-- The message stands at the head of the state's inbound queue, can be taken, and `P` holds of that state: the form the
hypotheses of the statements about messages have. -/
def Takes (s : State) (m : InMsg) (k : Kind) (P : State → Prop) : Prop :=
  (hears s m).offersHead m [] ∧ m.kind = k ∧ P (hears s m)

theorem witness_EveryCommandAnswersNext : station4.pending = [] ∧ State.reset.active = false ∧
    (inState .unconfigured station4).active = false := by decide +kernel

theorem witness_MemoryPortRetries :
    let s (n : Nat) : State := { State.reset with loader := { State.reset.loader with transaction := n } }
    let w : State := { State.reset with loader := { State.reset.loader with port := .waiting } }
    ((s 1).loader.station = .loading ∧ (s 1).loader.port = .reading ∧ (s 7).loader.transaction < 8 ∧
      8 ≤ (s 8).loader.transaction) ∧ w.loader.station = .loading ∧ w.loader.port = .waiting := by decide +kernel

/-- A wrong sum, a wrong mark, station numbers 0 and 64; then station numbers 1 and 63. -/
theorem witness_RecordDecidesStart :
    State.reset.loader.station = .loading ∧ State.reset.loader.port = .reading ∧
    (record 166 4 228).length = 160 ∧ byteSum (record 166 4 228) % 256 ≠ 0 ∧
    byteAt (record 165 4 230) 0 ≠ 166 ∧ byteAt (record 166 0 233) 1 = 0 ∧ 63 < byteAt (record 166 64 169) 1 ∧
    (∀ r ∈ [record 166 1 232, record 166 63 170], r.length = 160 ∧ byteSum r % 256 = 0 ∧ byteAt r 0 = 166 ∧
      1 ≤ byteAt r 1 ∧ byteAt r 1 ≤ 63) := by decide +kernel

theorem witness_ListeningEndsInRunning : (inState .listening station4).loader.station = .listening ∧
    (inState .listening station4).line.routine = .empty := by decide +kernel

theorem witness_RestartKeepsOnlyCounters :
    Takes station4 (msg 60 .restart []) .restart (fun s => s.line.tx = .quiet) ∧
    Takes (withLine (fun l => { l with tx := .breaking }) station4) (msg 60 .restart []) .restart
      (fun s => s.line.tx ≠ .quiet) := by unfold Takes State.offersHead; decide +kernel

/-- A Listening station whose receiver hunts steps on. -/
theorem witness_SilentUnlessRunningKept :
    let s := { withLine (fun l => { l with receiver := .hunting }) (inState .listening station4) with pending := [.idleTime] }
    s.silentUnlessRunning ∧ ∃ t, step s = .next t := ⟨by unfold State.silentUnlessRunning; decide +kernel, _, rfl⟩

theorem witness_HuntingAndFraming :
    (withLine (fun l => { l with tx := .breaking }) station4).line.tx ≠ .quiet ∧
    (withLine (fun l => { l with receiver := .off }) station4).line.receiver = .off ∧
    (∀ r ∈ [Receiver.hunting, .idle, .opened [4] 0, .skipping],
      (withLine (fun l => { l with receiver := r }) station4).line.tx = .quiet ∧ r ≠ .off) ∧
    Receiver.idle ≠ .hunting ∧ 0 ≤ 9 := by decide +kernel

/-- Destinations 0, the own 4, another 63, and 64, at an aligned receiver. -/
theorem witness_LeadCharacterByDestination :
    (∀ r ∈ [Receiver.idle, .opened [4] 0, .skipping],
      (withLine (fun l => { l with receiver := r }) station4).line.tx = .quiet ∧ r ≠ .off ∧ r ≠ .hunting) ∧
    63 < (toByte 64).toNat ∧ (toByte 0).toNat = 0 ∧ (toByte 4).toNat = station4.settings.station ∧
    ((toByte 63).toNat ≤ 63 ∧ (toByte 63).toNat ≠ 0 ∧ (toByte 63).toNat ≠ station4.settings.station) := by decide +kernel

/-- Idle and Skipping; then a second character of 0, 64, the own 4 and 63, a fourth of 25 and 24, a third, one inside the
body, and the last one. -/
theorem witness_DataCharacterStored :
    (∀ r ∈ [Receiver.idle, .skipping, .opened [4] 0, .opened [4, 3] 0, .opened [4, 3, 1] 0, .opened [4, 3, 1, 7] 0,
        .opened [4, 60, 18, 0] 0],
      (withLine (fun l => { l with receiver := r }) station4).line.tx = .quiet) ∧
    (∀ d ∈ [0, 64, 4], d = 0 ∨ 63 < d ∨ d = station4.settings.station) ∧
    ¬((toByte 63).toNat = 0 ∨ 63 < (toByte 63).toNat ∨ (toByte 63).toNat = station4.settings.station) ∧
    24 < (toByte 25).toNat ∧ (toByte 24).toNat ≤ 24 ∧
    ([4, 3, 1, 7] : List Byte).length + 1 ≠ 5 + byteAt [4, 3, 1, 7] 3 ∧
    ([4, 60, 18, 0] : List Byte).length + 1 = 5 + byteAt [4, 60, 18, 0] 3 := by decide +kernel

/-- The Claim of the line example with its check 148 and with 147, at inbound queues of 0, 7 and 8; a routine Cue clear
at 5 and 6; kind 20; a Cue clear of length 1. -/
theorem witness_CompleteMessageAdmitted :
    let claim : List Byte := [4, 3, 1, 7, 20, 7, 1, 44, 1, 1, 19]
    let clear : List Byte := [4, 60, 18, 0]
    let open' (c : List Byte) (n : Nat) : State := withLine (fun l => { l with
      receiver := .opened c 64800000, inbound := List.replicate n (msg 3 .cueClear []) }) station4
    (∀ c ∈ [claim, clear, [4, 60, 20, 0], [4, 60, 18, 1, 0]], (open' c 0).line.tx = .quiet ∧
      (open' c 0).line.receiver = .opened c 64800000 ∧ 4 ≤ c.length ∧ c.length + 1 = 5 + byteAt c 3 ∧
      byteSum (c ++ [checkByte c]) % 256 = 0) ∧
    byteSum (claim ++ [147]) % 256 ≠ 0 ∧ Kind.ofCode (byteAt [4, 60, 20, 0] 2) = none ∧
    Kind.ofCode (byteAt claim 2) = some .claim ∧ Kind.claim.lengthOk (byteAt claim 3) = true ∧
    Kind.ofCode (byteAt clear 2) = some .cueClear ∧ Kind.cueClear.lengthOk (byteAt clear 3) = true ∧
    Kind.cueClear.lengthOk (byteAt [4, 60, 18, 1, 0] 3) = false ∧
    (open' claim 7).line.inbound.length < 8 ∧ 8 ≤ (open' claim 8).line.inbound.length ∧
    (open' clear 5).line.inbound.length < 6 ∧ 6 ≤ (open' clear 6).line.inbound.length := by decide +kernel

theorem witness_SentMessageIsReceived : station4.otherStation 3 ∧ station4.line.tx = .quiet ∧
    station4.line.receiver = .idle ∧ claim300.dest = station4.settings.station ∧ claim300.dest ≤ 63 ∧
    claim300.kind.lengthOk claim300.body.length = true ∧ station4.line.inbound.length < 6 := by
  unfold State.otherStation; decide +kernel

/-- A station that is not Running; one that is, with urgent queues of 3 and 4, routine queues of 0, 5 and 6, a Time mark
waiting and one in hand. -/
theorem witness_OffersJoinTheirQueue :
    let time := timeMarkMsg settings4 0
    let clear := outMsg 0 .blockState [20, 0, 0, 4]
    let s (u r : OutQueue) : State := withLine (fun l => { l with urgent := u, routine := r }) station4
    (inState .listening station4).isRunning = false ∧ (s .empty .empty).isRunning = true ∧
    ((s .empty .empty).line.urgent.head = none ∧ (s .empty .empty).line.urgent.rest = []) ∧
    claim300.kind.urgent = true ∧ clear.kind.urgent = false ∧ time.kind.single = true ∧ clear.kind.single = false ∧
    (s (queue claim300 1 0 false 2) .empty).line.urgent.msgs.length < 4 ∧
    4 ≤ (s (queue claim300 1 0 false 3) .empty).line.urgent.msgs.length ∧
    (s .empty (queue clear 1 2 false 4)).line.routine.msgs.length < 6 ∧
    6 ≤ (s .empty (queue clear 1 2 false 5)).line.routine.msgs.length ∧
    ((queue time 1 2 false 0).waiting .timeMark = true ∧ (queue time 1 2 false 0).inHand .timeMark = false) ∧
    ((queue time 1 2 true 0).waiting .timeMark = false ∧ (queue time 1 2 true 0).inHand .timeMark = true) := by
  decide +kernel

theorem witness_RaisesFlagAndNotify : station4.settings.mask.get .warm = true ∧
    station4.settings.mask.get .short = false := by decide +kernel

theorem witness_IdleTimeAndSlotsCount : station4.active = true ∧ station4.line.tx = .quiet ∧ station4.line.cond ≠ .stuck ∧
    (withLine (fun l => { l with idleDone := true }) station4).line.idleDone = true ∧
    (withLine (fun l => { l with cond := .stuck }) station4).line.cond = .stuck ∧ station4.line.idleDone = false := by
  decide +kernel

theorem witness_StuckAndSilence :
    let stuck := withLine (fun l => { l with cond := .stuck }) station4
    let out := withLine (fun l => { l with cond := .stuck, silence := .ranOut }) station4
    (station4.active = true ∧ station4.line.cond ≠ .stuck ∧ station4.line.tx.isSending = false) ∧
    (stuck.active = true ∧ stuck.line.cond = .stuck ∧ stuck.line.tx = .quiet ∧ stuck.line.silence ≠ .ranOut) ∧
    (out.line.cond = .stuck ∧ out.line.silence = .ranOut) ∧
    station4.line.silence = .running 5000 ∧ station4.line.cond = .heard ∧ stuck.line.cond ≠ .heard ∧
    (withLine (fun l => { l with silence := .off }) station4).line.silence = .off := by decide +kernel

/-- An urgent head ready; a routine head ready beside an urgent one that waits; neither ready. -/
theorem witness_AttemptStartsUrgentFirst :
    let time := timeMarkMsg settings4 0
    let s (u r : OutQueue) : State := withLine (fun l => { l with urgent := u, routine := r, idleDone := true }) station4
    let a := s (queue claim300 1 0 false 0) (queue time 1 0 false 0)
    let b := s (queue claim300 2 6 true 0) (queue time 1 0 false 0)
    let c := s (queue claim300 2 6 true 0) (queue time 1 2 false 0)
    (a.isRunning = true ∧ a.line.tx = .quiet ∧ a.line.cond ≠ .stuck ∧ a.line.idleDone = true) ∧
    a.line.urgent.head.map (fun h => h.slots) = some 0 ∧
    (b.line.routine.head.map (fun h => h.slots) = some 0 ∧ b.line.urgent.head.map (fun h => h.slots) = some 6) ∧
    (c.line.routine.head.map (fun h => h.slots) = some 2 ∧ c.line.urgent.head.map (fun h => h.slots) = some 6) ∧
    (inState .listening station4).isRunning = false ∧ station4.line.idleDone = false := by decide +kernel

theorem witness_CollisionDrawsBackoff :
    (∀ k ∈ [1, 7], (collider 5 k).line.tx = .sending true [] ∧
      ∃ h, (collider 5 k).line.urgent.head = some h ∧ 1 ≤ h.attempt ∧ h.attempt ≤ 7) ∧
    1 ≤ 1 ∧ 1 ≤ 63 ∧ 63 ≤ 63 ∧ 1 ≠ 63 := by
  refine ⟨fun k hk => ⟨rfl, _, rfl, ?_⟩, by decide⟩
  revert k; decide

theorem witness_HeadLeavesQueue : (collider 5 8).line.tx = .sending true [] ∧
    (∃ h, (collider 5 8).line.urgent.head = some h ∧ 8 ≤ h.attempt) ∧
    (withLine (fun l => { l with tx := .breaking }) station4).line.tx = .breaking :=
  ⟨rfl, ⟨_, rfl, by decide⟩, rfl⟩

/-- A station with full queues steps on. -/
theorem witness_LineBoundsKept :
    let s := { withLine (fun l => { l with urgent := queue claim300 8 0 true 3, tx := .sending true [] }) station4 with
      pending := [.collision] }
    s.lineBounded ∧ ∃ t, step s = .next t :=
  ⟨by unfold State.lineBounded OutQueue.inForm; decide +kernel, _, rfl⟩

theorem witness_ScheduledOffers : station4.isRunning = true ∧ station4.line.cond ≠ .stuck ∧
    (withLine (fun l => { l with cond := .stuck }) station4).line.cond = .stuck ∧
    (inState .listening station4).isRunning = false := by decide +kernel

theorem witness_AgeStepAges : station4.active = true := by decide

/-- Malformed ones, each field one beyond its range; well-formed ones at the ends of the ranges; then the source held, a
table of 15 without it, full tables of Fresh entries and with station 30's the oldest Stale one. -/
theorem witness_AnnounceTaken :
    let ok (b : List Nat) : Bool := b.getD 1 0 ∈ [0, 1, 2, 4, 8] && b.getD 2 0 ≤ 16 && b.getD 3 0 ≤ 2 &&
      (b.getD 4 0 = 1 || b.getD 4 0 = 2) && 1 ≤ b.getD 5 0 && b.getD 5 0 ≤ 27
    let sorted (s : State) : Prop := (s.peers.entries.map fun p => p.station).Pairwise (· < ·)
    (∀ b ∈ [[0, 3, 0, 0, 1, 1], [0, 9, 0, 0, 1, 1], [0, 1, 17, 0, 1, 1], [0, 1, 0, 3, 1, 1], [0, 1, 0, 0, 0, 1],
      [0, 1, 0, 0, 3, 1], [0, 1, 0, 0, 1, 0], [0, 1, 0, 0, 1, 28]], ok b = false ∧
      Takes station4 (msg 9 .announce b) .announce sorted) ∧
    (∀ b ∈ [[0, 0, 0, 0, 1, 1], [255, 8, 16, 2, 2, 27]], ok b = true ∧
      Takes (withPeers [peer 9 16 8 3 true] station4) (msg 9 .announce b) .announce
        (fun s => sorted s ∧ ∃ p ∈ s.peers.entries, p.station = 9) ∧
      Takes (withPeers (fullTable.take 15) station4) (msg 9 .announce b) .announce
        (fun s => sorted s ∧ (∀ p ∈ s.peers.entries, p.station ≠ 9) ∧ s.peers.entries.length < 16) ∧
      Takes (withPeers (fullTable.map fun p => { p with fresh := true }) station4) (msg 9 .announce b) .announce
        (fun s => sorted s ∧ (∀ p ∈ s.peers.entries, p.station ≠ 9 ∧ p.fresh = true) ∧ 16 ≤ s.peers.entries.length) ∧
      Takes (withPeers fullTable station4) (msg 9 .announce b) .announce
        (fun s => sorted s ∧ 16 ≤ s.peers.entries.length ∧ ∃ o ∈ s.peers.entries, o.fresh = false ∧ o.station = 30 ∧
          ∀ q ∈ s.peers.entries, q.fresh = false → q.age < o.age ∨ (q.age = o.age ∧ o.station ≤ q.station))) := by
  unfold Takes State.offersHead; decide +kernel

/-- Station 4 in the second row of the clash example: all its blocks Blocked. -/
def clashing : State :=
  let s := withPeers [peer 3 16 4 1 true, peer 9 16 8 0 true] station4
  { s with blocks := s.blocks.map fun r => { r with state := .blocked } }

theorem witness_PeerTableKept :
    let s := { clashing with pending := [.ageStep] }
    s.peersKept ∧ ∃ t, step s = .next t := by
  refine ⟨⟨by decide +kernel, by decide +kernel, ?_, ?_, trivial⟩, _, rfl⟩ <;>
    (unfold State.otherStation; decide +kernel)

theorem witness_BlockedExactlyInClash :
    let s := { clashing with pending := [.ageStep] }
    s.blockedInClash ∧ ∃ t, step s = .next t := ⟨by unfold State.blockedInClash; decide +kernel, _, rfl⟩

/-- Clock steps that end one short of the first cues' minute and on it, and one over the day wrap. -/
theorem witness_ClockStepMovesTime :
    let of (n i : Nat) : State := { eveningStation with
      clock := { eveningStation.clock with time := n }, cues := { eveningStation.cues with cueTime := n, index := i } }
    (∀ n ∈ [64798799, 64798800, 86399000], (of n 0).active = true ∧ (of n 0).cues.own = []) ∧
    [(64798799, 0), (64798800, 0), (86399000, 7)].map (fun x => sees .clockStep (of x.1 x.2) (fun t =>
      (t.cues.index, t.cues.own.length, t.lamps.a.override.isSome, t.lamps.c.override.isSome))) =
      [some (0, 0, false, false), some (2, 1, true, false), some (0, 0, false, true)] := by decide +kernel

/-- A Time mark of this time and day length code. -/
def mark (time code : Nat) : InMsg := { msg 3 .timeMark [] with body := bytes4 time ++ [toByte code] }

/-- Malformed ones (a day and more, codes 0 and 28), one of another code; then raw differences at the ends of their
ranges: 0, 1, an hour less 1, an hour, half a day less 1, half a day. -/
theorem witness_TimeMarkTaken :
    let read (m : InMsg) : Nat × Nat := (num4 m.body 0, byteAt m.body 4)
    (∀ m ∈ [mark 86400000 5, mark 0 0, mark 0 28], Takes station4 m .timeMark fun _ => m.stamp < 86400000 ∧
      ¬((read m).1 < 86400000 ∧ 1 ≤ (read m).2 ∧ (read m).2 ≤ 27)) ∧
    (Takes station4 (mark 86399999 27) .timeMark fun s => (read (mark 86399999 27)).1 < 86400000 ∧
      (read (mark 86399999 27)).2 ≠ dayCode s.settings.dayLength) ∧
    (∀ r ∈ [0, 1, 3599999, 3600000, 43199999, 43200000],
      let m := mark ((64800000 + r) % 86400000) 5
      Takes station4 m .timeMark fun s => m.stamp < 86400000 ∧ (read m).2 = dayCode s.settings.dayLength ∧
        ((read m).1 + 86400000 - m.stamp) % 86400000 = r ∧ s.clock.adopting = false) ∧
    Takes { station4 with clock := { station4.clock with adopting := true } } (mark 64800000 5) .timeMark
      fun s => s.clock.adopting = true := by unfold Takes State.offersHead; decide +kernel

/-- A mark taken as a jump of 1 h 10 min passes the eight cues of the evening but three (12, the skip). -/
theorem witness_TimeMarkTaken_cues :
    let s : State := { eveningStation with
      clock := { eveningStation.clock with time := 65400000 }, cues := { eveningStation.cues with cueTime := 65400000 } }
    let m : InMsg := { mark 69600000 5 with stamp := 65400000 }
    Takes s m .timeMark (fun s => m.stamp < 86400000 ∧ s.cues.own = [] ∧ s.cues.cues = eveningCues) := by
  unfold Takes State.offersHead; decide +kernel

theorem witness_SceneTimeKept :
    let s := { eveningStation with
      clock := { eveningStation.clock with phase := .day, daylight := 1000, owed := 3599999 }, pending := [.clockStep] }
    s.sceneTimeKept ∧ ∃ t, step s = .next t :=
  ⟨⟨by decide, by decide, by decide +kernel, by decide +kernel, rfl, by decide, by decide, trivial⟩, _, rfl⟩

theorem witness_DaylightFollowsCurve :
    [21599999, 21600000, 25199999, 25200000, 64799999, 64800000, 70199999, 70200000].map (phaseAt (settingsOf record4)) =
      [.night, .dawn, .dawn, .day, .day, .dusk, .dusk, .night] := by decide +kernel

/-- Malformed ones: trains 0 and 128, directions 0 and 3, presence 2; then trains 1 and 127 for a block that is not an own
one, in Listening, in CoolOff and on a Blocked record. -/
theorem witness_ClaimAnswered :
    (∀ b ∈ [[23, 0, 0, 0, 1, 0, 0], [23, 128, 0, 0, 1, 0, 0], [23, 1, 0, 0, 0, 0, 0], [23, 1, 0, 0, 3, 0, 0],
      [23, 1, 0, 0, 1, 2, 0]], Takes station4 (msg 5 .claim b) .claim fun _ =>
        ¬(1 ≤ b.getD 1 0 ∧ b.getD 1 0 ≤ 127 ∧ (b.getD 4 0 = 1 ∨ b.getD 4 0 = 2) ∧ (b.getD 5 0 = 0 ∨ b.getD 5 0 = 1))) ∧
    (∀ n ∈ [1, 127],
      let m := msg 5 .claim [23, n, 0, 0, 1, 0, 0]
      Takes station4 (msg 5 .claim [19, n, 0, 0, 1, 0, 0]) .claim (fun s => s.block 19 = none) ∧
      Takes (inState .listening station4) m .claim (fun s => s.isRunning = false ∧ (s.block 23).isSome) ∧
      Takes { station4 with blocks := [{ Block.start 23 with coolOff := some 2000 }] } m .claim
        (fun s => s.isRunning = true ∧ (s.block 23).map (fun r => r.coolOff) ≠ some none) ∧
      Takes (withBlock 23 .blocked station4) m .claim (fun s => s.blockState 23 = some .blocked)) := by
  unfold Takes State.offersHead; decide +kernel

/-- The same trains at the records R65's table names, each without CoolOff; a full table and one with room. -/
theorem witness_ClaimAnswered_record :
    ∀ n ∈ [1, 127],
      let m := msg 5 .claim [23, n, 0, 0, 1, 0, 0]
      let of (k : Nat) : State := withTrains ((List.range k).map fun i => train (i + 2) .forward 0 0 [20]) [] [] station4
      (∀ st ∈ [.reserved (held n 5 0 .forward none), .reserved (held n 8 0 .forward none),
          .reserved (held 3 5 0 .forward none), .occupied n, .occupied 3, .intruded, .free],
        Takes (withBlock 23 st station4) m .claim fun s => s.isRunning = true ∧
          s.block 23 = some { Block.start 23 with state := st }) ∧
      Takes (of 4) m .claim (fun s => s.blockState 23 = some .free ∧ s.hasTrain n = false ∧
        4 ≤ s.trains.records.length + s.foreignCount) ∧
      Takes (of 3) m .claim (fun s => s.blockState 23 = some .free ∧
        ¬(s.hasTrain n = false ∧ 4 ≤ s.trains.records.length + s.foreignCount)) := by
  unfold Takes State.offersHead; decide +kernel

theorem witness_ReservationsEnd :
    (∀ n ∈ [0, 128], Takes reserved23 (msg 5 .release [23, n]) .release fun _ => n = 0 ∨ 127 < n) ∧
    Takes reserved23 (msg 5 .release [23, 12]) .release (fun s =>
      s.blockState 23 = some (.reserved (held 12 5 300 .reverse (some 24)))) ∧
    (∀ m ∈ [msg 8 .release [23, 12], msg 5 .release [23, 1], msg 5 .release [23, 127], msg 5 .release [22, 12]],
      Takes reserved23 m .release fun _ => ¬(byteAt m.body 0 = 23 ∧ byteAt m.body 1 = 12 ∧ m.src = 5)) ∧
    reserved23.blockState 23 = some (.reserved (held 12 5 300 .reverse (some 24))) ∧
    (∀ v, reserved23.blockState 22 ≠ some (.reserved v)) := by
  refine ⟨?_, ?_, ?_, by decide +kernel, fun v h => by cases h⟩ <;> (unfold Takes State.offersHead; decide +kernel)

/-- Malformed ones; a block that is not an own one; the five states of a record; a full table and one with room, and a
train that has a record. -/
theorem witness_TrainPlaceTaken :
    let four (r : List Train) : State := withTrains r [] [] (withBlock 23 .intruded station4)
    (∀ b ∈ [[23, 0, 1], [23, 128, 1], [23, 1, 0], [23, 127, 3]], Takes station4 (msg 60 .trainPlace b) .trainPlace fun _ =>
      ¬(1 ≤ b.getD 1 0 ∧ b.getD 1 0 ≤ 127 ∧ (b.getD 2 0 = 1 ∨ b.getD 2 0 = 2))) ∧
    (∀ n ∈ [1, 127],
      let m := msg 60 .trainPlace [23, n, 1]
      Takes station4 (msg 60 .trainPlace [24, n, 2]) .trainPlace (fun s => s.block 24 = none) ∧
      Takes (inState .listening station4) m .trainPlace (fun s => s.isRunning = false) ∧
      Takes station4 m .trainPlace (fun s => s.isRunning = true ∧ s.blockState 23 = some .free) ∧
      Takes reserved23 m .trainPlace (fun s => s.blockState 23 = some (.reserved (held 12 5 300 .reverse (some 24)))) ∧
      Takes (withBlock 23 (.occupied 9) station4) m .trainPlace (fun s => s.blockState 23 = some (.occupied 9)) ∧
      Takes (withBlock 23 .blocked station4) m .trainPlace (fun s => s.blockState 23 = some .blocked) ∧
      Takes (four [train 2 .forward 0 0 [20], train 3 .forward 0 0 [21], train 4 .forward 0 0 [22],
          train 5 .forward 0 0 [20]]) m .trainPlace
        (fun s => s.blockState 23 = some .intruded ∧ s.hasTrain n = false ∧ 4 ≤ s.trains.records.length + s.foreignCount) ∧
      Takes (four [train 2 .forward 0 0 [20], train 3 .forward 0 0 [21], train 4 .forward 0 0 [22]]) m .trainPlace
        (fun s => s.blockState 23 = some .intruded ∧ s.hasTrain n = false ∧ s.trains.records.length + s.foreignCount < 4) ∧
      Takes (four [train n .reverse 100 80 [22]]) m .trainPlace
        (fun s => s.blockState 23 = some .intruded ∧ s.hasTrain n = true)) := by
  unfold Takes State.offersHead; decide +kernel

theorem witness_DetectorsDebounce : station4.active = true ∧ (List.replicate 8 4000).length = 8 ∧
    (List.replicate 8 (EndSensors.mk true false)).length = 8 ∧ station4.blockNumbers.Nodup ∧ station4.isRunning = true ∧
    station4.line.routine.head = none ∧ station4.line.routine.rest = [] ∧
    station4.settings.mask.intrusion = false ∧ station4.settings.mask.short = false := by decide +kernel

/-- One sample that declares block 20 Occupied, block 21 Vacant and finds a second sample at the trip current on block 22:
the next runs of each, one sample before and at its bound. -/
def sampledBlocks (n : Nat) : State :=
  { station4 with blocks := [{ Block.start 20 with highRun := n }, { Block.start 21 with detOccupied := true, lowRun := 29 + n },
      { Block.start 22 with shortRun := n - 1 }, Block.start 23] }

theorem witness_DetectorsDebounce_clauses :
    ([1, 2].map fun n => sees (.detectorSample [4, 3, 1500, 0, 0, 0, 0, 0] (List.replicate 8 ⟨false, false⟩))
      { sampledBlocks n with settings := { settings4 with mask := { settings4.mask with intrusion := true, short := true } } }
      (fun t => t.blocks.map fun r => (r.detOccupied, r.coolOff))) =
      [some [(false, none), (true, none), (false, none), (false, none)],
       some [(true, none), (false, none), (false, some 2000), (false, none)]] ∧
    (let s := crossing .granted
     (∃ x ∈ s.trains.records, x.leaving = false ∧ x.trail.head? = some 23 ∧ x.dir = .forward) ∧
     (∀ x ∈ s.trains.records, ¬(x.leaving = false ∧ x.trail.head? = some 23 ∧ x.dir = .reverse)) ∧
     ∀ code ∈ [0, 30], (passage 23 .forward code s).trains.records.map (fun x => (x.stopReached, x.present)) =
       [(true, 500)]) ∧
    (passage 23 .forward 0 (crossing (.queued none none))).trains.records.map (fun x => (x.stopReached, x.present)) =
      [(true, 0)] := by decide +kernel

theorem witness_DeclarationsMoveBlocks : station4.trainNumbers.Nodup ∧
    reserved23.blockState 23 = some (.reserved (held 12 5 300 .reverse (some 24))) ∧
    station4.blockState 23 = some .free ∧ (withBlock 23 (.occupied 7) station4).blockState 23 = some (.occupied 7) ∧
    (withBlock 23 .intruded station4).blockState 23 = some .intruded ∧
    (withBlock 23 .blocked station4).blockState 23 = some .blocked ∧ station4.blockState 24 = none ∧
    (station4.block 20).isSome = true ∧ (station4.block 23).isSome = true := by decide +kernel

/-- An entry of a train with a record and of one without, which then wants a local exit and a remote one; the vacancy of a
trail's only block, of one among others, and of a block the trail has dropped with a reversal due and not due. -/
theorem witness_DeclarationsMoveBlocks_clauses :
    (let s := withTrains [train 12 .reverse 300 300 [22]] [] [] reserved23
     s.trainNumbers.Nodup ∧ s.hasTrain 12 = true ∧ reserved23.hasTrain 12 = false ∧
      ∀ c ∈ s.trains.claims, s.hasTrain c.train = true) ∧
    (∀ x ∈ (occupancyDeclared 23 reserved23).trains.records, x.leaving = false ∧ 0 < x.target ∧
      x.exit settings4 = some 22 ∧ settings4.owns 22 = true ∧ settings4.owns 24 = false) ∧
    (let s (trail : List Nat) (r : Reversal) := withTrains [{ train 7 .forward 500 0 trail with reversal := r }] [] []
       (withBlock 20 (.occupied 7) station4)
     (∀ x ∈ (s [20] .none).trains.records, ∀ b ∈ x.trail, b = 20) ∧
     (∀ x ∈ (s [21, 20] .none).trains.records, 20 ∈ x.trail ∧ ∃ b ∈ x.trail, b ≠ 20) ∧
     (∀ r ∈ [Reversal.none, .pending], ∀ x ∈ (s [23, 22, 21] r).trains.records, 20 ∉ x.trail) ∧
     (vacancyDeclared 20 (s [23, 22, 21] .pending)).trains.records.map (fun x => x.dir) = [.reverse] ∧
     (vacancyDeclared 20 (s [23, 22, 21] .none)).trains.records.map (fun x => x.dir) = [.forward]) := by decide +kernel

theorem witness_AnswersReachClaims :
    (∀ n ∈ [0, 128], Takes station4 (msg 5 .grant [24, n, 4]) .grant fun _ => n = 0 ∨ 127 < n) ∧
    Takes station4 (msg 5 .grant [24, 1, 3]) .grant (fun s => 3 ≠ s.settings.station) ∧
    Takes station4 (msg 5 .grant [24, 127, 4]) .grant (fun s => s.hasClaim 127 24 = false ∧ 4 = s.settings.station) ∧
    Takes (crossing (.sent 0 (some 2000))) (msg 5 .grant [24, 7, 4]) .grant (fun s => s.hasClaim 7 24 = true) ∧
    (∀ b ∈ [[1, 24, 0], [1, 24, 128], [0, 24, 7], [2, 24, 7], [8, 24, 7]], Takes station4 (msg 5 .refuse b) .refuse fun _ =>
      ¬(1 ≤ b.getD 2 0 ∧ b.getD 2 0 ≤ 127 ∧ (b.getD 0 0 = 1 ∨ (3 ≤ b.getD 0 0 ∧ b.getD 0 0 ≤ 7)))) ∧
    (∀ why ∈ [1, 3, 4, 6, 7], Takes (crossing (.sent 0 none)) (msg 5 .refuse [why, 24, 7]) .refuse fun s =>
      s.hasClaim 7 24 = true) := by unfold Takes State.offersHead; decide +kernel

/-- A claim free to go with 1 claim Sent and the urgent queue below and at its limit; then each thing that holds it back,
with view entries aged 49 and 50. -/
theorem witness_AnswersReachClaims_sending :
    let free := claim24 (.queued none none)
    let s (v : List ViewEntry) (target : Nat) : State :=
      { withTrains [train 7 .forward target 0 [23]] [{ claim24 (.sent 0 none) with train := 8, block := 30 }, free] v
          (withPeers [peer 5 24 4 2 true] station4) with pending := [] }
    let ok := s [⟨24, .occupied, 9, 5, 50⟩, ⟨25, .blocked, 0, 5, 0⟩] 40
    (ok.sentCount < 2 ∧ ok.trains.find 7 = some (train 7 .forward 40 0 [23]) ∧ ok.line.cond = .heard ∧
      ok.lookupOwner 24 = .found 5 ∧ ok.line.urgent.length < 4 ∧ ok.isRunning = true ∧
      (withLine (fun l => { l with urgent := queue claim300 1 0 false 3 }) ok).line.urgent.length = 4) ∧
    (trySend (s [⟨24, .reserved, 7, 5, 0⟩] 40) free).sentCount = 2 ∧
    (∀ e ∈ [ViewEntry.mk 24 .occupied 9 5 49, ⟨24, .reserved, 8, 5, 0⟩, ⟨24, .blocked, 0, 5, 0⟩],
      (trySend (s [e] 40) free).sentCount = 1) ∧
    (trySend (s [] 0) free).sentCount = 1 := by decide +kernel

/-- Sixteen view entries, that of block 100 the oldest. -/
def fullView : List ViewEntry := (List.range 16).map fun i => ⟨100 + i, .free, 0, 9, 20 - i⟩

theorem witness_BlockStateTaken :
    let view (v : List ViewEntry) : State := withTrains [train 7 .forward 500 500 [23]] [claim24 .granted] v station4
    (∀ b ∈ [[24, 5, 7, 5], [24, 2, 128, 5], [24, 2, 7, 0], [24, 2, 7, 64]], Takes station4 (msg 5 .blockState b) .blockState
      fun _ => ¬(b.getD 1 0 ≤ 4 ∧ b.getD 2 0 ≤ 127 ∧ 1 ≤ b.getD 3 0 ∧ b.getD 3 0 ≤ 63)) ∧
    Takes station4 (msg 5 .blockState [20, 0, 0, 1]) .blockState (fun s => s.settings.owns 20 = true) ∧
    (∀ code ∈ [0, 1, 2, 4], Takes (view []) (msg 5 .blockState [24, code, 7, 63]) .blockState
      (fun s => s.settings.owns 24 = false ∧ s.hasClaim 7 24 = true ∧ s.isRemoteNeighbour 24 = true ∧
        s.trains.view.length < 16)) ∧
    Takes (view [⟨24, .reserved, 7, 5, 3⟩]) (msg 5 .blockState [24, 2, 7, 5]) .blockState
      (fun s => ∃ e ∈ s.trains.view, e.block = 24) ∧
    Takes (view []) (msg 5 .blockState [25, 0, 0, 5]) .blockState
      (fun s => s.isRemoteNeighbour 25 = false ∧ s.settings.owns 25 = false) ∧
    Takes (view fullView) (msg 5 .blockState [24, 2, 7, 5]) .blockState
      (fun s => (∀ e ∈ s.trains.view, e.block ≠ 24) ∧ 16 ≤ s.trains.view.length ∧
        (s.trains.view.map fun e => e.block).Pairwise (· < ·) ∧ ∃ o ∈ s.trains.view,
          ∀ e ∈ s.trains.view, e.age < o.age ∨ (e.age = o.age ∧ o.block ≤ e.block)) := by
  unfold Takes State.offersHead; decide +kernel

/-- Free reported of the block a stopped record came from: with no reversal pending, and with one that is then due. -/
theorem witness_BlockStateTaken_clauses :
    let of (r : Reversal) (b : Nat) : State :=
      withTrains [{ train 7 .forward 500 0 [23] with enteredFrom := some b, reversal := r }] [claim24 .granted] [] station4
    (∀ r ∈ [Reversal.none, .pending, .resume 40], Takes (of r 24) (msg 5 .blockState [24, 0, 0, 5]) .blockState fun s =>
      s.settings.owns 24 = false ∧ ∃ x ∈ s.trains.records, x.enteredFrom = some 24) ∧
    (∀ code ∈ [0, 1, 2, 3, 4], Takes (of .none 19) (msg 5 .blockState [24, code, 8, 5]) .blockState fun s =>
      (∃ c ∈ s.trains.claims, c.isGranted = true ∧ c.block = 24 ∧ c.train ≠ 8) ∧
        ∀ x ∈ s.trains.records, x.enteredFrom ≠ some 24) ∧
    seesOf .blockState (of (.resume 40) 24) (msg 5 .blockState [24, 0, 0, 5]) (fun t =>
      t.trains.records.map fun x => (x.dir, x.target, x.enteredFrom)) = some [(.reverse, 40, none)] := by
  unfold Takes State.offersHead; decide +kernel

theorem witness_SpeedAndStopOrders :
    (∀ code ∈ [1, 2], (∀ n ∈ [0, 128], Takes station4 (msg 60 .trainOrder [n, code, 0, 0]) .trainOrder fun _ =>
      n = 0 ∨ 127 < n) ∧ ∀ n ∈ [1, 127], Takes (crossing .granted) (msg 60 .trainOrder [n, code, 3, 233]) .trainOrder fun _ =>
        1 ≤ n ∧ n ≤ 127 ∧ (code = 1 ∨ code = 2)) := by unfold Takes State.offersHead; decide +kernel

/-- Station 4 with block 22 reserved by itself for train 7. -/
def reserved22 : State := withBlock 22 (.reserved (held 7 4 0 .reverse (some 23))) station4

/-- No record; a Leaving one and one with a reversal pending; one that is not ready for its target's sake; one that turns
round at once, with a reservation of its old exit. -/
theorem witness_ReverseOrderTaken :
    let one (x : Train) : State := withTrains [x] [] [] (withBlock 23 (.occupied 7) reserved22)
    let m := msg 60 .trainOrder [7, 3, 0, 0]
    (∀ n ∈ [0, 128], Takes station4 (msg 60 .trainOrder [n, 3, 0, 0]) .trainOrder fun _ => n = 0 ∨ 127 < n) ∧
    Takes station4 m .trainOrder (fun s => s.hasTrain 7 = false ∧ byteAt m.body 1 = 3) ∧
    (∀ x ∈ [{ train 7 .reverse 0 0 [23] with leaving := true }, { train 7 .reverse 0 0 [23] with reversal := .pending }],
      Takes (one x) m .trainOrder fun s => s.trainNumbers.Nodup ∧ s.trains.records = [x] ∧ x.num = 7 ∧
        (x.leaving = true ∨ x.reversal ≠ .none)) ∧
    Takes (one (train 7 .reverse 500 1 [23])) m .trainOrder (fun s => s.trainNumbers.Nodup ∧
      s.trains.records = [train 7 .reverse 500 1 [23]]) ∧
    Takes (one (train 7 .reverse 0 0 [23])) m .trainOrder (fun s => s.trainNumbers.Nodup ∧
      s.trains.records = [train 7 .reverse 0 0 [23]] ∧ s.hasDroppedBlock (train 7 .reverse 0 0 [23]) = false ∧
      (train 7 .reverse 0 0 [23]).exit s.settings = some 22 ∧
      (s.blockState 22).any (BlockState.heldFor 7 s.settings.station) = true) := by
  unfold Takes State.offersHead; decide +kernel

/-- A record that turns round with a Granted claim whose owner is known; then what it asks for: nothing, a local exit, a
remote one with a claim and without. -/
theorem witness_ReverseOrderTaken_clauses :
    (let s := withTrains [train 7 .forward 0 0 [23]] [claim24 .granted] [] (withBlock 23 (.occupied 7) station4)
     s.blockNumbers.Nodup ∧ (∀ c ∈ s.trains.claims.filter (fun c => c.train == 7 && c.isGranted), c.owner ≠ none) ∧
     seesOf .trainOrderReverse s (msg 60 .trainOrder [7, 3, 0, 0]) (fun t => (t.trains.claims, t.line.urgent.msgs)) =
       some ([], [outMsg 5 .release (bytes [24, 7])])) ∧
    (let s (x : Train) (c : List PClaim) := withTrains [x] c [] (withBlock 23 (.occupied 7) station4)
     (train 7 .reverse 1 0 [23]).exit settings4 = some 22 ∧ settings4.owns 22 = true ∧
     (askExit 7 (s (train 7 .reverse 1 0 [23]) [])).blockState 22 =
       some (.reserved (held 7 4 0 .reverse (some 23))) ∧
     (train 7 .forward 1 0 [23]).exit settings4 = some 24 ∧ settings4.owns 24 = false ∧
     (askExit 7 (s (train 7 .forward 1 0 [23]) [])).trains.claims =
       [{ block := 24, train := 7, owner := none, level := 0, state := .queued none none }] ∧
     askExit 7 (s (train 7 .forward 0 0 [23]) []) = s (train 7 .forward 0 0 [23]) []) := by decide +kernel

theorem witness_RemoveOrderTaken :
    let m := msg 60 .trainOrder [7, 4, 0, 0]
    (∀ n ∈ [0, 128], Takes station4 (msg 60 .trainOrder [n, 4, 0, 0]) .trainOrder fun _ => n = 0 ∨ 127 < n) ∧
    Takes station4 m .trainOrder (fun s => s.hasTrain 7 = false ∧ byteAt m.body 1 = 4) ∧
    Takes (crossing .granted) m .trainOrder (fun s => s.hasTrain 7 = true ∧ s.blockNumbers.Nodup ∧
      (∀ x ∈ s.trains.records, s.trainState x = .held → x.present = 0) ∧
      ∀ c ∈ s.trains.claims.filter (fun c => c.train == 7 && c.isGranted), c.owner ≠ none) := by
  unfold Takes State.offersHead; decide +kernel

theorem witness_SpeedStepLimits :
    let s := crossing (.queued none none)
    let trip : State := { s with gov := { s.gov with temp := .tripped } }
    (s.active = true ∧ s.trainNumbers.Nodup ∧ (s.trains.claims.map fun c => c.train).Nodup ∧
      ∀ x ∈ s.trains.records, s.trainState x = .held → x.present = 0) ∧
    trip.gov.temp = .tripped ∧ trip.trainNumbers.Nodup := by decide +kernel

/-- A local Claim on each record a train may meet; the five rows of R80; the movement of a Leaving record. -/
theorem witness_SpeedStepLimits_clauses :
    let x := train 7 .reverse 500 100 [23]
    let on (st : BlockState) : State := withTrains [x] [] [] (withBlock 22 st station4)
    let mine := held 7 4 0 .reverse (some 23)
    ((on .free).isRunning = true ∧ (on .free).block 22 = some (Block.start 22) ∧ (Block.start 22).coolOff = none ∧
      (on .free).hasTrain 7 = true) ∧
    (on (.reserved mine)).blockState 22 = some (.reserved mine) ∧
    ([BlockState.reserved { mine with station := 5 }, .occupied 8, .intruded, .blocked].all fun st =>
      (localClaim x 22 (on st)).blocks = (on st).blocks) = true ∧
    ((on (.reserved mine)).trainState x = .running ∧ (on .free).trainState x = .approaching ∧
      (on .free).trainState { x with stopReached := true } = .held ∧
      (on .free).trainState { x with target := 0, present := 0 } = .stopped ∧
      (on .free).trainState { x with leaving := true } = .leaving) ∧
    ([281, 300, 319, 500, 0].map fun v => sees .speedStep
      (withTrains [{ train 7 .reverse 500 v [23] with leaving := true }] [] [] station4)
      (fun t => t.trains.records.map fun x => x.present)) = [some [300], some [300], some [300], some [480], some [20]] := by
  decide +kernel

theorem witness_TrainTableKept :
    let s := { crossing .granted with pending := [.speedStep] }
    s.trainsKept ∧ ∃ t, step s = .next t :=
  ⟨⟨by decide +kernel, by decide +kernel, ⟨[7], by decide +kernel, by decide +kernel⟩, by decide +kernel⟩, _, rfl⟩

theorem witness_PowerOrderTaken :
    (∀ code ∈ [0, 4], Takes station4 (msg 60 .powerOrder [code]) .powerOrder fun _ => code = 0 ∨ 3 < code) ∧
    Takes station4 (msg 60 .powerOrder [1]) .powerOrder (fun s => s.gov.level = .show) ∧
    (∀ x ∈ [(2, PowerLevel.economy), (3, .rest)], Takes reserved23 (msg 60 .powerOrder [x.1]) .powerOrder fun s =>
      PowerLevel.ofCode x.1 = some x.2 ∧ s.gov.level ≠ x.2 ∧ (s.settings.desc x.2).rotaries = decide (x.1 = 2) ∧
        s.gov.temp ≠ .tripped ∧ ∃ b ∈ s.blocks, b.coolOff = none ∧ s.driveOf b = some (300, .reverse)) := by
  unfold Takes State.offersHead; decide +kernel

theorem witness_GovernorStepBudget : (∀ t ∈ [TempState.normal, .warm, .tripped],
    (evening .rest 1150 t .parked).active = true ∧ (evening .rest 1150 t .parked).gov.temp = t) := by decide +kernel

/-- R114, R185: the start of Trip offers its notice with the temperature read; Warm's is held by the mask. -/
theorem witness_GovernorStepBudget_notices : [(85 : Int), 106].map (fun t => sees (.governorStep t) station4 (fun t =>
    t.line.routine.msgs)) = [some [], some [outMsg 0 .faultNotice (bytes [4, 0, 106])]] := by decide +kernel

/-- A channel that fits, and one that does not for its state's, the level's, the trip's or the current's sake. -/
theorem witness_GovernorAdmitsRotaries :
    (∀ t ∈ [evening .show 2000 .normal (rotary .held 3 0 none none false), evening .show 2000 .normal .parked,
      evening .rest 400 .normal (rotary .held 3 0 none none false), evening .show 2000 .tripped (rotary .halted 3 0 none none false),
      evening .show 900 .warm (rotary .held 3 0 none none false)], t.active = true) := by decide +kernel

theorem witness_TripKeepsQuiet :
    let t := evening .rest 1100 .tripped (rotary .halted 0 0 none none true)
    let s := { t with lamps := { Lamps.dark with tripMark := true }, gov := { t.gov with allowance := 0 }
                      pending := [.lampStep] }
    s.quietInTrip ∧ ∃ u, step s = .next u := ⟨by unfold State.quietInTrip; decide +kernel, _, rfl⟩

theorem witness_LampOrdersTaken :
    (∀ action ∈ [1, 2], Takes station4 (msg 60 .lampOrder [4, action, 0, 0, 0, 0]) .lampOrder fun _ => 3 < 4) ∧
    (∀ x ∈ [(0, Group.a), (3, .d)], Group.ofCode x.1 = some x.2 ∧
      Takes station4 (msg 60 .lampOrder [x.1, 1, 3, 233, 255, 255]) .lampOrder (fun _ => num2 (bytes [255, 255]) 0 = 65535) ∧
      Takes station4 (msg 60 .lampOrder [x.1, 1, 3, 232, 5, 160]) .lampOrder (fun _ => num2 (bytes [5, 160]) 0 = 1440) ∧
      Takes station4 (msg 60 .lampOrder [x.1, 2, 0, 0, 0, 0]) .lampOrder fun _ => True) := by
  unfold Takes State.offersHead; decide +kernel

theorem witness_LampStepWithinAllowance : (street 850).active = true ∧
    (street 850).lamps.channels.length = (street 850).settings.lamps.length ∧
    (street 850).settings.lamps[3]?.map (fun c => c.configured) = some true ∧
    (street 850).settings.lamps[4]?.map (fun c => c.configured) = some false := by decide +kernel

/-- The channel code 2; a Listening station and an unconfigured channel; then channel 0 in each state the rows name. -/
theorem witness_RotaryOrdersTaken :
    (∀ action ∈ [1, 2, 3], Takes station4 (msg 60 .rotaryOrder [2, action, 0, 3]) .rotaryOrder (fun _ => 1 < 2) ∧
      Takes (inState .listening station4) (msg 60 .rotaryOrder [0, action, 0, 3]) .rotaryOrder
        (fun s => s.isRunning = false ∧ chanOfCode 0 = some .ch0) ∧
      Takes { station4 with settings := { settings4 with rot1 := { settings4.rot1 with configured := false } } }
        (msg 60 .rotaryOrder [1, action, 0, 3]) .rotaryOrder
        (fun s => chanOfCode 1 = some .ch1 ∧ (s.settings.rot .ch1).configured = false) ∧
      ∀ r ∈ [Rotary.parked, rotary .held 2 0 (some 30000) none false, rotary .held 2 0 none none false,
          rotary .held 0 0 none none true, rotary .halted 0 0 none none true, rotary .starting 2 100 none none false,
          rotary .running 2 800 none (some 4000) false, rotary .stopping 0 700 none none false,
          rotary .seeking 0 150 none (some 4000) false, rotary .stalled 0 0 none none false],
        Takes (withRotary r station4) (msg 60 .rotaryOrder [0, action, 1, 0]) .rotaryOrder fun s =>
          s.isRunning = true ∧ (s.settings.rot .ch0).configured = true ∧ s.rotary.get .ch0 = r) ∧
    ((station4.settings.desc station4.gov.level).rotaries = true ∧ station4.gov.temp ≠ .tripped) ∧
    (settings4.desc .rest).rotaries = false := by unfold Takes State.offersHead; decide +kernel

theorem witness_RotaryStepsAndPulses : station4.active = true ∧ (station4.settings.rot .ch0).configured = true ∧
    (∀ n ∈ [0, 1, 2, 255], ((withRotary (rotary .running n 800 none (some 4000) false) station4).rotary.get .ch0).state =
      .running) ∧
    ((withRotary (rotary .seeking 0 150 none (some 4000) false) station4).rotary.get .ch0).state = .seeking ∧
    ((withRotary .parked station4).rotary.get .ch0).state = .parked ∧
    (Settings.initial.rot .ch1).configured = false := by decide +kernel

theorem witness_RotaryTimersRunOut : station4.active = true ∧
    (rotary .held 3 0 (some 30000) none false).heldTimer ≠ none ∧ (rotary .held 3 0 none none false).heldTimer = none ∧
    (rotary .seeking 0 150 none (some 4000) false).stallTimer ≠ none ∧ Rotary.parked.stallTimer = none := by decide

theorem witness_RotaryChannelsKept :
    let s := { withRotary (rotary .running 1 800 none (some 4000) false) station4 with pending := [.indexPulse .ch0] }
    s.rotariesKept ∧ ∃ t, step s = .next t := ⟨by unfold State.rotariesKept Rotary.inForm; decide +kernel, _, rfl⟩

/-- A clear; malformed loads (counts 0 and 5, minute 1440, action code 15 with event 0); loads of 1 and 4 into an empty
list, of 4 into a list of 28, which they fill, and of 29, which they overflow. -/
theorem witness_CueListTaken :
    let cue : List Nat := [5, 159, 55, 215, 255]
    let of (n : Nat) : State :=
      { station4 with cues := { station4.cues with cues := List.replicate n ⟨1200, .lampClear .b⟩ } }
    let four := msg 60 .cueLoad ([4] ++ cue ++ cue ++ cue ++ cue)
    Takes station4 (msg 60 .cueClear []) .cueClear (fun s => s.cues.own = []) ∧
    (∀ b ∈ [[0] ++ cue, [5] ++ cue, [1, 5, 160, 55, 215, 255], [1, 5, 159, 240, 0, 0]],
      Takes station4 (msg 60 .cueLoad b) .cueLoad fun _ => cueLoadOf (bytes b) = none) ∧
    (∀ m ∈ [msg 60 .cueLoad ([1] ++ cue), four], Takes station4 m .cueLoad fun s => (cueLoadOf m.body).isSome = true ∧
      (s.cues.cues.map fun c => c.minute).Pairwise (· ≤ ·)) ∧
    (cueLoadOf four.body).map (fun l => l.length) = some 4 ∧
    Takes (of 28) four .cueLoad (fun s => s.cues.cues.length + 4 ≤ 32 ∧
      (s.cues.cues.map fun c => c.minute).Pairwise (· ≤ ·)) ∧
    Takes (of 29) four .cueLoad (fun s => 32 < s.cues.cues.length + 4) := by unfold Takes State.offersHead; decide +kernel

/-- R160, R197: each kind of action field at the ends of its arguments. -/
theorem witness_CueListTaken_fields :
    ([(0, 511 * 2048 + 2047), (3, 2046), (4, 0), (7, 0), (8, 3), (8, 0), (9, 8192 + 1023), (11, 0), (9, 2 * 8192),
      (12, 8192 + 2047), (14, 127 * 8192), (12, 0), (15, 255), (15, 0), (15, 256)].map fun x =>
        Action.ofField (x.1 * 1048576 + x.2)) =
      [some (.lampSet .a 1000 none), some (.lampSet .d 0 (some 1439)), some (.lampClear .a), some (.lampClear .d),
       some (.power .rest), none, some (.rotaryRun .ch1 255), some (.rotaryClear .ch0), none,
       some (.trainSpeed 1 1000), some (.trainReverse 127), none, some (.showEvent 255), none, none] := by decide +kernel

theorem witness_ShowEventsTaken :
    (∀ b ∈ [[0, 1, 0], [1, 0, 0], [1, 64, 0], [1, 1, 4]], Takes station4 (msg 10 .showEvent b) .showEvent fun _ =>
      ¬(1 ≤ b.getD 0 0 ∧ 1 ≤ b.getD 1 0 ∧ b.getD 1 0 ≤ 63 ∧ b.getD 2 0 ≤ 3)) ∧
    Takes station4 (msg 10 .showEvent [30, 4, 3]) .showEvent (fun s => 4 = s.settings.station) ∧
    (∀ b ∈ [[1, 1, 0], [255, 63, 3], [30, 10, 2], [30, 10, 3]], Takes station4 (msg 10 .showEvent b) .showEvent fun s =>
      1 ≤ b.getD 0 0 ∧ 1 ≤ b.getD 1 0 ∧ b.getD 1 0 ≤ 63 ∧ b.getD 2 0 ≤ 3 ∧ b.getD 1 0 ≠ s.settings.station) ∧
    (station4.active = true ∧ station4.cues.own = []) ∧
    ({ station4 with cues := { station4.cues with own := [⟨31, 4, 1⟩] } } : State).cues.own = [⟨31, 4, 1⟩] := by
  unfold Takes State.offersHead; decide +kernel

theorem witness_ActionsPerformed :
    let of (n : Nat) : State := { station4 with cues := { station4.cues with own := List.replicate n ⟨31, 4, 1⟩ } }
    ((of 7).cues.own.length < 8 ∧ 8 ≤ (of 8).cues.own.length) ∧
    (∀ code ∈ [1, 3], Takes station4 (msg 60 .powerOrder [code]) .powerOrder fun _ => (PowerLevel.ofCode code).isSome) ∧
    (∀ action ∈ [1, 2, 3], (∀ c ∈ [0, 1], Takes station4 (msg 60 .rotaryOrder [c, action, 0, 3]) .rotaryOrder fun _ =>
      (chanOfCode c).isSome) ∧ ∀ n ∈ [1, 127], Takes station4 (msg 60 .trainOrder [n, action, 0, 40]) .trainOrder fun _ =>
      1 ≤ n ∧ n ≤ 127) := by unfold Takes State.offersHead; decide +kernel

theorem witness_CueListKept :
    let s := { eveningStation with pending := [.clockStep] }
    s.cuesKept ∧ ∃ t, step s = .next t := ⟨by unfold State.cuesKept; decide +kernel, _, rfl⟩

/-- Listening, and a Query for all stations; then each kind, with record items 0 and 3, view items 4 and 19, and items
beyond what is held. -/
theorem witness_QueriesAnswered :
    let all : InMsg := { msg 60 .query [1, 0] with dest := 0 }
    (∀ kind ∈ [1, 6], Takes (inState .listening station4) (msg 60 .query [kind, 0]) .query fun s =>
      s.isRunning = false ∧ 1 ≤ kind) ∧
    Takes station4 all .query (fun _ => all.dest = 0) ∧
    (∀ kind ∈ [1, 2, 3, 4, 5, 6], ∀ option ∈ [0, 1, 3, 4, 19, 20], Takes station4 (msg 60 .query [kind, option]) .query
      fun s => s.isRunning = true ∧ (msg 60 .query [kind, option]).dest ≠ 0) ∧
    (let s := withTrains (List.replicate 4 (train 7 .forward 0 0 [23])) [] fullView station4
     s.trains.records[0]?.isSome ∧ s.trains.records[3]?.isSome ∧ s.trains.view[4 - 4]?.isSome ∧
       s.trains.view[19 - 4]?.isSome) ∧
    station4.trains.records.length ≤ 0 ∧ station4.trains.view.length ≤ 4 - 4 := by
  unfold Takes State.offersHead; decide +kernel

theorem witness_ReportsAndStrayCommands :
    Takes station4 (msg 5 .report [5, 0, 0]) .report (fun _ => True) ∧
    Takes station4 (msg 5 .faultNotice [6, 0, 24]) .faultNotice (fun _ => True) ∧
    (kindTaken .claim = some .claim ∧ State.reset.active = false ∧ station4.line.inbound = []) ∧
    (station4.loader.station ≠ .loading ∧ station4.loader.station ≠ .listening ∧ station4.line.tx.isSending = false ∧
      station4.line.tx ≠ .breaking) ∧
    (∀ code ∈ [0, 5], Takes station4 (msg 60 .trainOrder [7, code, 0, 0]) .trainOrder fun _ => code = 0 ∨ 4 < code) ∧
    (∀ code ∈ [0, 3], Takes station4 (msg 60 .lampOrder [0, code, 0, 0, 0, 0]) .lampOrder fun _ => code = 0 ∨ 2 < code) ∧
    (∀ code ∈ [0, 4], Takes station4 (msg 60 .rotaryOrder [0, code, 0, 0]) .rotaryOrder fun _ => code = 0 ∨ 3 < code) ∧
    (∀ code ∈ [0, 7], Takes station4 (msg 60 .query [code, 0]) .query fun _ => code = 0 ∨ 6 < code) := by
  unfold Takes State.offersHead; decide +kernel

end Sys2Proof.Tests
end

section
/-! SUPPORT. The scene clock and the cue list: the daylight curve of a record, what taking cues does to the place in the
cue list, and with them the statements of the scene clock. -/

namespace Sys2Proof.Machine

/-! ### The daylight curve (R55 to R57) -/

/-- The clamps of R55 put the start of Dusk at or after the end of Dawn. -/
theorem curveOf_ordered (ds dl ks kl : Nat) :
    (curveOf ds dl ks kl).1 + (curveOf ds dl ks kl).2.1 ≤ (curveOf ds dl ks kl).2.2.1 := Nat.le_max_right ..

/-- The curve of a record has its phases in order, and its night floor is at most half the full level (R55). -/
theorem settingsOf_curve (record : List Byte) :
    let st := settingsOf record
    st.dawnStart + st.dawnLength ≤ st.duskStart ∧ st.nightFloor ≤ 500 :=
  ⟨curveOf_ordered _ _ _ (bitField (minutesNumber record) 1 11), Nat.min_le_left ..⟩

/-- Each phase stands where an ordered curve puts it (R56). -/
theorem phaseAt_iff (st : Settings) (t : Nat) (h : st.dawnStart + st.dawnLength ≤ st.duskStart) :
    (phaseAt st t = .dawn ↔ st.dawnStart * 60000 ≤ t ∧ t < (st.dawnStart + st.dawnLength) * 60000) ∧
    (phaseAt st t = .day ↔ (st.dawnStart + st.dawnLength) * 60000 ≤ t ∧ t < st.duskStart * 60000) ∧
    (phaseAt st t = .dusk ↔ st.duskStart * 60000 ≤ t ∧ t < (st.duskStart + st.duskLength) * 60000) ∧
    (phaseAt st t = .night ↔ t < st.dawnStart * 60000 ∨ (st.duskStart + st.duskLength) * 60000 ≤ t) := by
  simp only [phaseAt, minuteMs]
  by_cases hdawn : st.dawnStart * 60000 ≤ t ∧ t < (st.dawnStart + st.dawnLength) * 60000
  · simp only [hdawn, and_self, true_and, ↓reduceIte, reduceCtorEq, false_iff]; omega
  by_cases hday : (st.dawnStart + st.dawnLength) * 60000 ≤ t ∧ t < st.duskStart * 60000
  · simp only [hdawn, hday, and_self, true_and, ↓reduceIte, reduceCtorEq, false_iff]; omega
  by_cases hdusk : st.duskStart * 60000 ≤ t ∧ t < (st.duskStart + st.duskLength) * 60000
  · simp only [hdawn, hday, hdusk, and_self, true_and, ↓reduceIte, reduceCtorEq, false_iff]; omega
  · simp only [hdawn, hday, hdusk, true_and, ↓reduceIte, reduceCtorEq, true_iff]; omega

section
variable {st : Settings} {t : Nat}

theorem daylightAt_night (h : phaseAt st t = .night) : daylightAt st t = st.nightFloor := by simp [daylightAt, h]

theorem daylightAt_day (h : phaseAt st t = .day) : daylightAt st t = 1000 := by simp [daylightAt, h]

theorem daylightAt_dawn (h : phaseAt st t = .dawn) :
    daylightAt st t = st.nightFloor +
      (1000 - st.nightFloor) * ((t - st.dawnStart * 60000) / 1000) / (st.dawnLength * 60) := by
  simp [daylightAt, h, phaseStart, minuteMs]

theorem daylightAt_dusk (h : phaseAt st t = .dusk) :
    daylightAt st t = 1000 - (1000 - st.nightFloor) * ((t - st.duskStart * 60000) / 1000) / (st.duskLength * 60) := by
  simp [daylightAt, h, phaseStart, minuteMs]

end

/-- The rise within a phase of `length` minutes never passes the whole range `n`, while the time since the phase start
lies within the phase. -/
theorem rise_le (n start length t : Nat) (h : t < (start + length) * 60000) :
    n * ((t - start * 60000) / 1000) / (length * 60) ≤ n := by
  refine Nat.div_le_of_le_mul ?_
  rw [Nat.mul_comm]
  exact Nat.mul_le_mul_right n (by omega)

/-- The daylight level stays between the night floor and 1000 (R57). -/
theorem daylightAt_bounds (st : Settings) (t : Nat) (h : st.dawnStart + st.dawnLength ≤ st.duskStart)
    (hf : st.nightFloor ≤ 1000) : st.nightFloor ≤ daylightAt st t ∧ daylightAt st t ≤ 1000 := by
  obtain ⟨hdawn, -, hdusk, -⟩ := phaseAt_iff st t h
  cases hp : phaseAt st t with
  | night => rw [daylightAt_night hp]; omega
  | day => rw [daylightAt_day hp]; omega
  | dawn =>
    rw [daylightAt_dawn hp]
    have rise := rise_le (1000 - st.nightFloor) st.dawnStart st.dawnLength t (hdawn.mp hp).2
    exact ⟨Nat.le_add_right .., by omega⟩
  | dusk =>
    rw [daylightAt_dusk hp]
    have fall := rise_le (1000 - st.nightFloor) st.duskStart st.duskLength t (hdusk.mp hp).2
    exact ⟨by omega, Nat.sub_le ..⟩

/-- Settles O32: the clamps of R55 put the curve in order, and the phases and levels are those of an ordered curve. -/
theorem daylightFollowsCurve : Obligations.DaylightFollowsCurve := by
  intro record t
  obtain ⟨horder, hfloor⟩ := settingsOf_curve record
  obtain ⟨hlow, hhigh⟩ := daylightAt_bounds (settingsOf record) t horder (by omega)
  obtain ⟨hdawn, hday, hdusk, hnight⟩ := phaseAt_iff (settingsOf record) t horder
  exact ⟨hlow, hhigh, hdawn, hday, hdusk, hnight, daylightAt_night, daylightAt_day, daylightAt_dawn, daylightAt_dusk⟩

/-! ### The place in the cue list -/

/-- Of the cue unit, nothing but the own events and Missed may differ: list, index and cue time stay. -/
def State.keepsCuePlace (s t : State) : Prop := t.cues = { s.cues with own := t.cues.own, missed := t.cues.missed }

namespace State

theorem keepsCuePlace.refl (s : State) : s.keepsCuePlace s := rfl

theorem keepsCuePlace.trans {a b c : State} (h : a.keepsCuePlace b) (h' : b.keepsCuePlace c) : a.keepsCuePlace c := by
  unfold keepsCuePlace at *; rw [h', h]

theorem keepsCuePlace.fields_eq {s t : State} (h : s.keepsCuePlace t) :
    t.cues.cues = s.cues.cues ∧ t.cues.index = s.cues.index ∧ t.cues.cueTime = s.cues.cueTime := by
  unfold keepsCuePlace at h; rw [h]; exact ⟨rfl, rfl, rfl⟩

theorem keepsCuePlace.of_cues {s t : State} (h : t.cues = s.cues) : s.keepsCuePlace t := by
  unfold keepsCuePlace; rw [h]

theorem changesTrack.keepsCuePlace {s t : State} (h : s.changesTrack t) : s.keepsCuePlace t := by
  obtain ⟨-, -, -, -, -, -, -, hcues, -⟩ := (changesTrack_iff s t).mp h
  exact .of_cues hcues

end State

theorem setLevel_cues (p : PowerLevel) (s : State) : (setLevel p s).cues = s.cues := by
  unfold setLevel; split <;> rfl

theorem rotaryRun_cues (c : Chan) (n : Nat) (s : State) : (rotaryRun c n s).cues = s.cues := by
  unfold rotaryRun
  split
  · split
    · exact raiseFault_cues ..
    · rfl
  · rfl

theorem rotaryStop_cues (c : Chan) (s : State) : (rotaryStop c s).cues = s.cues := by
  unfold rotaryStop; split <;> rfl

theorem rotaryClear_cues (c : Chan) (s : State) : (rotaryClear c s).cues = s.cues := by
  unfold rotaryClear
  split
  · simp only; split <;> rfl
  · rfl

theorem keepsCuePlace_makeOwn (code hop : Nat) (s : State) : s.keepsCuePlace (makeOwn code hop s) := by
  unfold makeOwn; split <;> rfl

theorem keepsCuePlace_inEitherOrder {f g : State → State} (hf : ∀ s : State, s.keepsCuePlace (f s))
    (hg : ∀ s : State, s.keepsCuePlace (g s)) (s : State) : s.keepsCuePlace (inEitherOrder f g s) := by
  have counted : s.keepsCuePlace { s with freeCount := s.freeCount + 1 } := rfl
  rcases inEitherOrder_cases f g s with h | h <;> rw [h]
  · exact counted.trans ((hf _).trans (hg _))
  · exact counted.trans ((hg _).trans (hf _))

/-- A train order of an action, broadcast and applied, keeps the place in the cue list (R164). -/
theorem keepsCuePlace_trainOrder (m : OutMsg) {order : State → State} (h : ∀ s : State, s.changesTrack (order s))
    (s : State) : s.keepsCuePlace (inEitherOrder (offer m) order s) :=
  keepsCuePlace_inEitherOrder (fun s => (changesTrack_offer m s).keepsCuePlace) (fun s => (h s).keepsCuePlace) s

/-- An action keeps the place in the cue list (R163). -/
theorem keepsCuePlace_perform (hop : Option Nat) (a : Action) (s : State) : s.keepsCuePlace (perform hop a s) := by
  cases a with
  | lampSet g l u => exact .of_cues (lampSet_cues ..)
  | lampClear g => exact .of_cues (lampClear_cues ..)
  | power p => exact .of_cues (setLevel_cues ..)
  | rotaryRun c n => exact .of_cues (rotaryRun_cues ..)
  | rotaryStop c => exact .of_cues (rotaryStop_cues ..)
  | rotaryClear c => exact .of_cues (rotaryClear_cues ..)
  | trainSpeed n v => exact keepsCuePlace_trainOrder _ (changesTrack_orderSpeed n v) s
  | trainStop n => exact keepsCuePlace_trainOrder _ (changesTrack_orderStop n) s
  | trainReverse n => exact keepsCuePlace_trainOrder _ (changesTrack_orderReverse n) s
  | showEvent code =>
    cases hop with
    | none => exact .refl s
    | some h => exact keepsCuePlace_makeOwn ..

theorem keepsCuePlace_listenStep (e : ShowEvent) (s : State) (l : ListenEntry) :
    s.keepsCuePlace (listenStep e s l) := by
  unfold listenStep
  split
  · split
    · exact keepsCuePlace_perform ..
    · exact .refl s
  · exact .refl s

theorem keepsCuePlace_matchListen (e : ShowEvent) (s : State) : s.keepsCuePlace (matchListen e s) :=
  foldl_keeps State.keepsCuePlace.refl State.keepsCuePlace.trans (listenStep e) (keepsCuePlace_listenStep e) _ s

theorem keepsCuePlace_takeOwn (s : State) : s.keepsCuePlace (takeOwn s) := by
  unfold takeOwn
  split
  · exact .refl s
  · next e rest _ =>
    have taken : s.keepsCuePlace { s with cues := { s.cues with own := rest } } := rfl
    exact taken.trans (keepsCuePlace_inEitherOrder (fun s => (changesTrack_offer _ s).keepsCuePlace)
      (keepsCuePlace_matchListen e) _)

theorem keepsCuePlace_takeOwns (n : Nat) (s : State) : s.keepsCuePlace (takeOwns n s) := by
  induction n generalizing s with
  | zero => exact .refl s
  | succ n ih => exact (keepsCuePlace_takeOwn s).trans (ih _)

/-- Taking the own events that are pending keeps the place in the cue list (R165, log 17). -/
theorem keepsCuePlace_settleOwn (s : State) : s.keepsCuePlace (settleOwn s) := keepsCuePlace_takeOwns _ s

theorem State.changesByActions.clock_eq {s t : State} (h : s.changesByActions t) : t.clock = s.clock := by
  unfold State.changesByActions at h; rw [h]

theorem State.changesByActions.settings_eq {s t : State} (h : s.changesByActions t) : t.settings = s.settings := by
  unfold State.changesByActions at h; rw [h]

/-- What actions change they change under any clock. -/
theorem State.changesByActions.withClock {s t : State} (h : s.changesByActions t) (c : Clock) :
    State.changesByActions { s with clock := c } { t with clock := c } :=
  by unfold State.changesByActions at *; exact congrArg (fun x : State => { x with clock := c }) h

/-! ### Cues taken in list order (R161, R162, R166, R168) -/

/-- A way to take a cue: the list stays and the index rises by 1. -/
def TakesNextCue (f : State → Cue → State) : Prop :=
  ∀ (s : State) (c : Cue), (f s c).cues.cues = s.cues.cues ∧ (f s c).cues.index = s.cues.index + 1

/-- An action performed after the index has risen leaves the list and the index. -/
theorem takesNextCue_of_keepsCuePlace {s t : State}
    (h : State.keepsCuePlace { s with cues := { s.cues with index := s.cues.index + 1 } } t) :
    t.cues.cues = s.cues.cues ∧ t.cues.index = s.cues.index + 1 := by
  unfold State.keepsCuePlace at h; rw [h]; exact ⟨rfl, rfl⟩

theorem takesNextCue_fire : TakesNextCue fire := fun _ _ =>
  takesNextCue_of_keepsCuePlace (keepsCuePlace_perform _ _ _)

theorem takesNextCue_passOver : TakesNextCue passOver := fun s c => by
  refine takesNextCue_of_keepsCuePlace ?_
  unfold passOver
  simp only
  split
  · exact .of_cues (lampSetAcross_cues ..)
  · split
    · exact keepsCuePlace_perform ..
    · rfl

theorem foldl_takesNextCue {f : State → Cue → State} (hf : TakesNextCue f) (l : List Cue) (s : State) :
    (l.foldl f s).cues.cues = s.cues.cues ∧ (l.foldl f s).cues.index = s.cues.index + l.length := by
  induction l generalizing s with
  | nil => exact ⟨rfl, rfl⟩
  | cons c l ih =>
    obtain ⟨hlist, hindex⟩ := hf s c
    obtain ⟨hlist', hindex'⟩ := ih (f s c)
    exact ⟨hlist'.trans hlist, by rw [List.foldl_cons, hindex', hindex, List.length_cons]; omega⟩

/-- The cues of a list that scene time `now` has reached, up to the first it has not. -/
def reachedBy (now : Nat) (cues : List Cue) : List Cue := cues.takeWhile fun c => decide (c.minute * 60000 ≤ now)

/-- A movement of scene time takes the cues it covers in list order: those from the index on that it reaches; over the
day wrap those to the end of the list, and after them those it reaches from the list's start. -/
theorem coverCues_eq {f : State → Cue → State} (hf : TakesNextCue f) (now : Nat) {s v : State} (h : s.keepsCuePlace v) :
    coverCues f now v =
      let ahead := s.cues.cues.drop s.cues.index
      let wrapped := ahead.foldl f v
      let done : State :=
        if s.cues.cueTime ≤ now then (reachedBy now ahead).foldl f v
        else (reachedBy now s.cues.cues).foldl f { wrapped with cues := { wrapped.cues with index := 0 } }
      { done with cues := { done.cues with cueTime := now } } := by
  obtain ⟨hlist, hindex, htime⟩ := h.fields_eq
  have hdue : (wrapIndex (v.cues.restOfDay.foldl f v)).cues.due now = reachedBy now s.cues.cues := by
    rw [← hlist, ← (foldl_takesNextCue hf v.cues.restOfDay v).1]; rfl
  unfold coverCues
  simp only [hdue]
  simp only [CueUnit.due, CueUnit.restOfDay, hlist, hindex, htime]
  rfl

/-- After a movement of scene time the index stands past every cue covered. -/
theorem coverCues_index {f : State → Cue → State} (hf : TakesNextCue f) (now : Nat) {s v : State}
    (h : s.keepsCuePlace v) : (coverCues f now v).cues.index = s.cues.indexAt now := by
  obtain ⟨-, hindex, -⟩ := h.fields_eq
  rw [coverCues_eq hf now h]
  unfold CueUnit.indexAt
  split
  · exact (foldl_takesNextCue hf _ v).2.trans (by rw [hindex]; rfl)
  · exact (foldl_takesNextCue hf _ _).2.trans (Nat.zero_add _)

/-! ### The clock step (R42) -/

/-- The clock step stands the clock of before at its new time, takes the own events pending and then advances. -/
theorem clockStep_eq (s : State) :
    clockStep s =
      advance (s.clock.step s.settings).time { settleOwn s with clock := s.clock.step s.settings } := by
  have h := changesByActions_settleOwn s
  simp only [clockStep, h.clock_eq, h.settings_eq]

theorem Answers.of_next {c : Instr} {s t : State} {P : State → Prop} (h : exec c s = .next t) (hP : P t) :
    Answers c s P := ⟨t, h, hP⟩

theorem exec_clockStep (s : State) (h : s.active = true) : exec .clockStep s = .next (clockStep s) := by
  simp [exec, execClockStep, h]

/-- Settles O29: the step is an advance from the state with the clock moved, and an advance fires the cues it covers. -/
theorem clockStepMovesTime : Obligations.ClockStepMovesTime := by
  intro s hs
  refine .of_next (exec_clockStep s hs) ?_
  intro i slew now clock fired reached ahead u moved wrapped done
  have hplace : s.keepsCuePlace moved := (keepsCuePlace_settleOwn s).trans (.of_cues rfl)
  have hstep : clockStep s = coverCues fire now moved := clockStep_eq s
  have hmoved : State.changesByActions { s with clock := clock } moved :=
    (changesByActions_settleOwn s).withClock clock
  rw [hstep]
  exact ⟨coverCues_eq takesNextCue_fire now hplace, settleOwn_nil s,
    hmoved.trans (changesByActions_advance now moved), rfl, coverCues_index takesNextCue_fire now hplace⟩

end Sys2Proof.Machine
end

section
/-! SUPPORT. Time marks: what a jump does with the cues it passes, and what a mark does by its raw difference. -/

namespace Sys2Proof.Machine

/-! ### Cues passed by a jump (R140, R166) -/

/-- A cue passed by a jump to `now`: the index rises; a set action is last seen at its trigger point and watched at
`now`, clear and power actions are applied, a one-shot counts in Missed. -/
def passCue (now : Nat) (s : State) (c : Cue) : State :=
  let s' : State := { s with cues := { s.cues with index := s.cues.index + 1 } }
  let overridden (g : Group) (o : Option Override) : State :=
    { s' with lamps := s'.lamps.setGroup g { s'.lamps.group g with override := o } }
  match c.action with
  | .lampSet g level none => overridden g (some { level := level, ending := none })
  | .lampSet g level (some until') => overridden g
      (if inForward (c.minute * 60000) now (until' * 60000) then none
      else some { level := level, ending := some (until', now) })
  | .lampClear g => overridden g none
  | .power p => setLevel p s'
  | .rotaryRun _ _ | .rotaryStop _ | .rotaryClear _ | .trainSpeed _ _ | .trainStop _ | .trainReverse _
  | .showEvent _ => { s' with cues := { s'.cues with missed := min 255 (s'.cues.missed + 1) } }

/-- A cue is taken across a jump as `passCue` says, at the scene time the clock stands at. -/
theorem passOver_eq (s : State) (c : Cue) : passOver s c = passCue s.clock.time s c := by
  obtain ⟨minute, action⟩ := c
  cases action with
  | lampSet g level u => cases u <;> rfl
  | _ => rfl

theorem passOver_clock (s : State) (c : Cue) : (passOver s c).clock = s.clock :=
  (changesByActions_passOver s c).clock_eq

/-- Passing over a list of cues moves no scene time, so that every one of them is passed at the same time. -/
theorem foldl_passOver_eq (l : List Cue) (s : State) :
    l.foldl passOver s = l.foldl (passCue s.clock.time) s := by
  induction l generalizing s with
  | nil => rfl
  | cons c l ih => rw [List.foldl_cons, ih, passOver_clock, passOver_eq, List.foldl_cons]

theorem foldl_passOver_clock (l : List Cue) (s : State) : (l.foldl passOver s).clock = s.clock := by
  induction l generalizing s with
  | nil => rfl
  | cons c l ih => rw [List.foldl_cons, ih, passOver_clock]

/-- A skip to the time the clock stands at passes the cues it covers in list order. -/
theorem skip_eq {s v : State} {now : Nat} (h : s.keepsCuePlace v) (hnow : v.clock.time = now) :
    skip now v =
      let ahead := s.cues.cues.drop s.cues.index
      let wrapped := ahead.foldl (passCue now) v
      let done : State :=
        if s.cues.cueTime ≤ now then (reachedBy now ahead).foldl (passCue now) v
        else (reachedBy now s.cues.cues).foldl (passCue now) { wrapped with cues := { wrapped.cues with index := 0 } }
      { done with cues := { done.cues with cueTime := now } } := by
  subst hnow
  have hwrap := foldl_passOver_clock (s.cues.cues.drop s.cues.index) v
  refine (coverCues_eq takesNextCue_passOver v.clock.time h).trans ?_
  simp only [foldl_passOver_eq] at hwrap ⊢
  simp only [hwrap]

/-! ### The jump (R52) -/

/-- The clock after a jump to `now`. -/
def Clock.jumpedTo (st : Settings) (c : Clock) (now : Nat) : Clock := { c.standsAt st now 0 with jumps := true }

/-- A jump stands the clock of before at its new time, takes the own events pending, watches the overrides at the new
time and then skips. -/
theorem jumpBy_eq (r : Nat) (s : State) :
    let now := (s.clock.time + r) % 86400000
    jumpBy r s =
      skip now { settleOwn s with clock := s.clock.jumpedTo s.settings now
                                  lamps := (settleOwn s).lamps.watchOverrides now } := by
  have h := changesByActions_settleOwn s
  simp only [jumpBy, h.clock_eq, h.settings_eq]
  rfl

theorem changesByActions_watchOverrides (now : Nat) (s : State) :
    s.changesByActions { s with lamps := s.lamps.watchOverrides now } := rfl

/-- With no cue in the list a movement of scene time changes the place in it alone. -/
theorem skip_lamps_of_no_cues (now : Nat) (s : State) (h : s.cues.cues = []) : (skip now s).lamps = s.lamps := by
  simp [skip, coverCues, CueUnit.due, CueUnit.restOfDay, h]
  split <;> rfl

/-! ### Taking a Time mark (R48 to R53) -/

/-- A mark whose fields are in their ranges is well-formed (R48). -/
theorem timeMarkOf_ok (m : InMsg) (h : num4 m.body 0 < 86400000 ∧ 1 ≤ byteAt m.body 4 ∧ byteAt m.body 4 ≤ 27) :
    timeMarkOf m = some { time := num4 m.body 0, dayCode := byteAt m.body 4 } := by
  obtain ⟨htime, hlow, hhigh⟩ := h
  simp [timeMarkOf, dayMs, htime, hlow, hhigh]

theorem timeMarkOf_malformed (m : InMsg)
    (h : ¬(num4 m.body 0 < 86400000 ∧ 1 ≤ byteAt m.body 4 ∧ byteAt m.body 4 ≤ 27)) : timeMarkOf m = none := by
  refine if_neg fun hfields => h ?_
  simp only [Bool.and_eq_true, decide_eq_true_eq, and_assoc] at hfields
  exact hfields

/-- TIME_MARK with its message takes it. -/
theorem exec_timeMark {s : State} {m : InMsg} {rest : List InMsg} (h : s.offersHead m rest) (hk : m.kind = .timeMark) :
    exec .timeMark s = .next (takeTimeMark m (s.took rest)) := by
  have hm : (m.kind == Kind.timeMark) = true := by simp [hk]
  exact congrArg Host.Outcome.next (takeMessage_head _ _ s m rest h hm)

/-- A well-formed mark of the own day length is taken by its raw difference (R49). -/
theorem takeTimeMark_own (m : InMsg) (s : State)
    (hok : num4 m.body 0 < 86400000 ∧ 1 ≤ byteAt m.body 4 ∧ byteAt m.body 4 ≤ 27)
    (hown : byteAt m.body 4 = dayCode s.settings.dayLength) :
    takeTimeMark m s = applyDifference ((num4 m.body 0 + 86400000 - m.stamp) % 86400000) s := by
  simp only [takeTimeMark, timeMarkOf_ok m hok, withBody, applyTimeMark, hown, if_true]
  rfl

/-- The state with no adoption pending. -/
def State.adopted (s : State) : State := { s with clock := { s.clock with adopting := false } }

section
variable (r : Nat) (s : State)

/-- While adoption is pending every mark is a jump, and the adoption has taken place (R53). -/
theorem applyDifference_adopting (h : s.clock.adopting = true) :
    applyDifference r s = jumpBy r s.adopted := by
  simp [applyDifference, h, State.adopted]

variable (h : s.clock.adopting = false)
include h

/-- A mark that agrees or lies behind is ignored (R50). -/
theorem applyDifference_ignored (hr : r = 0 ∨ 43200000 ≤ r) : applyDifference r s = s := by
  simp [applyDifference, h, halfDay, hr]

/-- A mark less than a scene hour ahead becomes owed (R50, R51). -/
theorem applyDifference_owed (hlow : 1 ≤ r) (hhigh : r < 3600000) :
    applyDifference r s = { s with clock := { s.clock with owed := r } } := by
  have hr : ¬(r = 0 ∨ 43200000 ≤ r) := by omega
  simp [applyDifference, h, halfDay, jumpFrom, hr, hhigh]

/-- A mark a scene hour or more ahead is a jump (R50, R52). -/
theorem applyDifference_jump (hlow : 3600000 ≤ r) (hhigh : r < 43200000) :
    applyDifference r s = jumpBy r s.adopted := by
  have hr : ¬(r = 0 ∨ 43200000 ≤ r) := by omega
  have hclock : { s.clock with adopting := false } = s.clock := by rw [← h]
  simp [applyDifference, h, halfDay, jumpFrom, hr, Nat.not_lt.mpr hlow, State.adopted, hclock]

end

/-- Settles O30: a mark is malformed, of another day length, or acts by its raw difference; a jump is a skip from the
state with the clock moved and the overrides watched. -/
theorem timeMarkTaken : Obligations.TimeMarkTaken := by
  intro s m rest hhead hkind _ time code r ok own jumps
  have hwhole (hok : ok) (hown : own) : exec .timeMark s = .next (applyDifference r (s.took rest)) :=
    (exec_timeMark hhead hkind).trans (congrArg Host.Outcome.next (takeTimeMark_own m (s.took rest) hok hown))
  have hjump (h : exec .timeMark s = .next (jumpBy r (s.took rest).adopted)) : jumps := by
    refine .of_next h ?_
    intro now clock taken reached ahead u moved wrapped done
    have hadopted : s.keepsCuePlace (s.took rest).adopted := .of_cues rfl
    have hplace : s.keepsCuePlace moved := hadopted.trans ((keepsCuePlace_settleOwn _).trans (.of_cues rfl))
    have hmoved : State.changesByActions { s.took rest with clock := clock } moved :=
      ((changesByActions_settleOwn (s.took rest).adopted).withClock clock).trans
        (changesByActions_watchOverrides now { u with clock := clock })
    rw [jumpBy_eq]
    refine ⟨skip_eq hplace rfl, settleOwn_nil (s.took rest).adopted, hmoved.trans (changesByActions_skip now moved),
      rfl, coverCues_index takesNextCue_passOver now hplace, fun hnone hcues => ?_⟩
    have hu : u = (s.took rest).adopted := settleOwn_nil _ hnone
    calc (skip now moved).lamps = moved.lamps := skip_lamps_of_no_cues now moved (hplace.fields_eq.1.trans hcues)
      _ = (s.took rest).adopted.lamps.watchOverrides now := congrArg (fun v : State => v.lamps.watchOverrides now) hu
  refine ⟨fun hbad => ?_, fun hok hother => ?_, fun hok hown hadopt => ?_, fun hok hown hadopt => ⟨fun hr => ?_,
    fun hlow hhigh => ?_, fun hlow hhigh => ?_⟩⟩
  · rw [exec_timeMark hhead hkind, takeTimeMark, timeMarkOf_malformed m hbad, withBody_none]
  · rw [exec_timeMark hhead hkind, takeTimeMark, timeMarkOf_ok m hok]
    exact congrArg Host.Outcome.next (if_neg hother)
  · exact hjump ((hwhole hok hown).trans (by rw [applyDifference_adopting r (s.took rest) hadopt]))
  · rw [hwhole hok hown, applyDifference_ignored r (s.took rest) hadopt hr]
  · rw [hwhole hok hown, applyDifference_owed r (s.took rest) hadopt hlow hhigh]
    rfl
  · exact hjump ((hwhole hok hown).trans (by rw [applyDifference_jump r (s.took rest) hadopt hlow hhigh]))

end Sys2Proof.Machine
end

section
/-! SUPPORT. No command touches the commands that wait: what each operation does to them, block by block, and with it
that every command answers a next state. -/

namespace Sys2Proof.Machine

/-! ### The frames of the blocks -/

theorem State.changesTrack.pending_eq {s t : State} (h : s.changesTrack t) : t.pending = s.pending := by
  unfold State.changesTrack at h; rw [h]

theorem State.changesClash.pending_eq {s t : State} (h : s.changesClash t) : t.pending = s.pending := by
  unfold State.changesClash at h; rw [h]

theorem State.changesByActions.pending_eq {s t : State} (h : s.changesByActions t) : t.pending = s.pending := by
  unfold State.changesByActions at h; rw [h]

/-! ### How commands are built -/

theorem foldl_pending {α : Type} {f : State → α → State} (hf : ∀ s a, (f s a).pending = s.pending) (l : List α)
    (s : State) : (l.foldl f s).pending = s.pending :=
  foldl_keeps (P := fun s t => t.pending = s.pending) (fun _ => rfl) (fun h h' => h'.trans h) f hf l s

/-- A command under a guard does nothing where the guard fails. -/
theorem guarded_pending {s t : State} (p : Prop) [Decidable p] (h : t.pending = s.pending) :
    (if p then t else s).pending = s.pending := by
  split
  · exact h
  · rfl

theorem takeMessage_pending {f : InMsg → State → State} (mine : InMsg → Bool)
    (hf : ∀ m s, (f m s).pending = s.pending) (s : State) : (takeMessage mine f s).pending = s.pending := by
  unfold takeMessage
  split
  · exact guarded_pending _ (hf _ _)
  · rfl

theorem withBody_pending {α : Type} {f : α → State → State} (hf : ∀ x s, (f x s).pending = s.pending)
    (body : Option α) (s : State) : (withBody body f s).pending = s.pending := by
  cases body with
  | none => exact malformed_pending s
  | some x => exact hf x s

/-! ### Receiver -/

theorem cutOpen_pending (c : CounterName) (s : State) : (cutOpen c s).pending = s.pending :=
  guarded_pending _ (count_pending s c)

theorem leadCharacter_pending (data : Byte) (stamp : Nat) (s : State) :
    (leadCharacter data stamp s).pending = s.pending := by
  unfold leadCharacter
  simp only
  split
  · exact cutOpen_pending .cut s
  · split <;> exact cutOpen_pending .cut s

theorem offerInbound_pending (m : InMsg) (s : State) : (offerInbound m s).pending = s.pending := by
  unfold offerInbound
  simp only
  split <;> split <;> rfl

theorem admitMessage_pending (chars : List Byte) (stamp : Nat) (s : State) :
    (admitMessage chars stamp s).pending = s.pending := by
  unfold admitMessage
  split
  · split
    · exact offerInbound_pending _ s
    · rfl
  · rfl

theorem completeMessage_pending (chars : List Byte) (stamp : Nat) (s : State) :
    (completeMessage chars stamp s).pending = s.pending := by
  unfold completeMessage
  simp only
  split
  · exact admitMessage_pending ..
  · rfl

theorem addCharacter_pending (chars : List Byte) (stamp : Nat) (s : State) :
    (addCharacter chars stamp s).pending = s.pending := by
  unfold addCharacter
  split
  · rfl
  · split
    · rfl
    · split
      · exact completeMessage_pending ..
      · rfl

theorem framingError_pending (s : State) : (framingError s).pending = s.pending := cutOpen_pending .framing s

/-! ### Transmitter -/

theorem leaveStuck_pending (s : State) : (leaveStuck s).pending = s.pending := by
  unfold leaveStuck
  simp only
  split
  · exact (changesClash_makeAllStale _).pending_eq
  · rfl

theorem beginAttempt_pending (urgent : Bool) (s : State) : (beginAttempt urgent s).pending = s.pending := by
  unfold beginAttempt
  split
  · rfl
  · exact cutOpen_pending .cut s

theorem tellOutcome_pending (f : Nat → PClaim → PClaim) (m : OutMsg) (s : State) :
    (tellOutcome f m s).pending = s.pending := by
  unfold tellOutcome
  split <;> rfl

theorem collide_pending (urgent : Bool) (s : State) : (collide urgent s).pending = s.pending := by
  unfold collide
  split
  · rfl
  · split
    · rfl
    · exact tellOutcome_pending ..

theorem sent_pending (urgent : Bool) (s : State) : (sent urgent s).pending = s.pending := by
  unfold sent
  split
  · rfl
  · exact tellOutcome_pending ..

theorem enterStuck_pending (s : State) : (enterStuck s).pending = s.pending :=
  (raiseFault_pending ..).trans (framingError_pending (startBit s))

theorem silenceOut_pending (s : State) : (silenceOut s).pending = s.pending := by
  unfold silenceOut
  simp only
  split
  · exact (changesClash_makeAllStale _).pending_eq
  · rfl

/-! ### Peer table -/

theorem applyAnnounce_pending (src : Nat) (a : AnnounceBody) (s : State) :
    (applyAnnounce src a s).pending = s.pending := by
  have rate : (if a.dayCode = dayCode s.settings.dayLength then s
      else { s with clock := { s.clock with rateMismatch := true } }).pending = s.pending := by split <;> rfl
  unfold applyAnnounce
  simp only
  cases peersAfter src a _ with
  | none => split <;> exact rate
  | some ps =>
    have settled := (changesClash_settleClash ps (if a.dayCode = dayCode s.settings.dayLength then s
      else { s with clock := { s.clock with rateMismatch := true } })).pending_eq.trans rate
    split <;> exact settled

/-! ### Scene clock -/

theorem clockStep_pending (s : State) : (clockStep s).pending = s.pending := by
  rw [clockStep_eq]
  exact (changesByActions_advance _ _).pending_eq.trans (changesByActions_settleOwn s).pending_eq

theorem jumpBy_pending (offset : Nat) (s : State) : (jumpBy offset s).pending = s.pending := by
  rw [jumpBy_eq]
  exact (changesByActions_skip _ _).pending_eq.trans (changesByActions_settleOwn s).pending_eq

theorem applyTimeMark_pending (stamp : Nat) (t : TimeMarkBody) (s : State) :
    (applyTimeMark stamp t s).pending = s.pending := by
  unfold applyTimeMark
  split
  · unfold applyDifference
    split
    · exact jumpBy_pending ..
    · split
      · rfl
      · split
        · rfl
        · exact jumpBy_pending ..
  · rfl

/-! ### Detector sample -/

theorem occupancyDeclared_pending (b : Nat) (s : State) : (occupancyDeclared b s).pending = s.pending := by
  unfold occupancyDeclared
  split
  · exact (changesTrack_noticeBlock ..).pending_eq.trans (changesTrack_entry ..).pending_eq
  · exact (changesTrack_noticeBlock ..).pending_eq
  · rfl

theorem debounce_pending (s : State) (b : Nat) : (debounce s b).pending = s.pending := by
  unfold debounce
  split
  · unfold declare
    split
    · rfl
    · exact occupancyDeclared_pending ..
    · exact (changesTrack_vacancyDeclared ..).pending_eq
  · rfl

theorem testShort_pending (s : State) (b : Nat) : (testShort s b).pending = s.pending := by
  unfold testShort
  split
  · simp only
    split <;> rfl
  · rfl

theorem arrival_pending (code : Nat) (s : State) : (arrival code s).pending = s.pending := by
  unfold arrival
  split
  · rfl
  · exact (changesByActions_makeOwn ..).pending_eq.trans (changesByActions_settleOwn s).pending_eq

theorem passage_pending (b : Nat) (stopEnd : Dir) (code : Nat) (s : State) :
    (passage b stopEnd code s).pending = s.pending :=
  guarded_pending _ (arrival_pending ..)

theorem readSensors_pending (sensors : List EndSensors) (s : State) (b : Nat) :
    (readSensors sensors s b).pending = s.pending := by
  unfold readSensors
  split
  · exact (guarded_pending _ (passage_pending ..)).trans (guarded_pending _ (passage_pending ..))
  · rfl

theorem detectorSample_pending (currents : List Nat) (sensors : List EndSensors) (s : State) :
    (detectorSample currents sensors s).pending = s.pending := by
  unfold detectorSample
  simp only
  calc _ = _ := offerAmong_pending ..
    _ = _ := foldl_pending (readSensors_pending sensors) ..
    _ = _ := foldl_pending testShort_pending ..
    _ = _ := foldl_pending debounce_pending ..

/-! ### Train table -/

theorem takeGrant_pending (m : InMsg) (s : State) : (takeGrant m s).pending = s.pending := by
  unfold takeGrant
  simp only
  split
  · rfl
  · exact guarded_pending _ (changesTrack_grantFor ..).pending_eq

theorem expire_pending (b : Nat) (s : State) : (expire b s).pending = s.pending := by
  unfold expire
  split
  · exact (changesTrack_changeBlock ..).pending_eq
  · rfl

/-! ### Load governor -/

theorem tempFaults_pending (old new : TempState) (reading : Int) (s : State) :
    (tempFaults old new reading s).pending = s.pending := by
  unfold tempFaults
  split
  · rfl
  · have ended : (match old with
        | .normal => s
        | .warm => endFault .warm s
        | .tripped => endFault .trip s).pending = s.pending := by cases old <;> rfl
    cases new with
    | normal => exact ended
    | warm => exact (raiseFault_pending ..).trans ended
    | tripped => exact (raiseFault_pending ..).trans ended

theorem govTemperature_pending (reading : Int) (s : State) : (govTemperature reading s).pending = s.pending := by
  unfold govTemperature
  simp only
  split
  · exact tempFaults_pending ..
  · split <;> exact tempFaults_pending ..

theorem consider_pending (c : Chan) (s : State) : (consider c s).pending = s.pending :=
  guarded_pending _ (setRotary_pending ..)

theorem governorStep_pending (reading : Int) (s : State) : (governorStep reading s).pending = s.pending := by
  unfold governorStep
  calc _ = _ := publishAllowance_pending _
    _ = _ := consider_pending .ch1 _
    _ = _ := consider_pending .ch0 _
    _ = _ := govBudget_pending _
    _ = _ := govTemperature_pending reading s

/-! ### Cue unit -/

theorem hearEvent_pending (e : ShowEvent) (s : State) : (hearEvent e s).pending = s.pending := by
  unfold hearEvent
  split
  · rfl
  · exact (guarded_pending _ (offer_pending ..)).trans (changesByActions_matchListen e s).pending_eq

theorem takeShowEvent_pending (m : InMsg) (s : State) : (takeShowEvent m s).pending = s.pending :=
  (withBody_pending hearEvent_pending ..).trans (changesByActions_settleOwn s).pending_eq

theorem loadCues_pending (load : List Cue) (s : State) : (loadCues load s).pending = s.pending := by
  unfold loadCues
  split
  · exact raiseFault_pending ..
  · rfl

theorem takeCueLoad_pending (m : InMsg) (s : State) : (takeCueLoad m s).pending = s.pending :=
  (withBody_pending loadCues_pending ..).trans (changesByActions_settleOwn s).pending_eq

/-! ### Report unit -/

theorem takeQuery_pending {clear : State → State} (hclear : ∀ s, (clear s).pending = s.pending) (code : Nat)
    (body : State → List Byte) (m : InMsg) (s : State) : (takeQuery code body clear m s).pending = s.pending := by
  unfold takeQuery
  split
  · exact guarded_pending _ ((offer_pending ..).trans (hclear s))
  · rfl

theorem clearCounters_pending (option : Nat) (s : State) : (clearCounters option s).pending = s.pending :=
  guarded_pending _ rfl

/-! ### Start-up loader -/

theorem restart_pending (s : State) : (restart s).pending = s.pending := rfl

/-! ### Every command -/

/-- Every command answers a next state with the same commands waiting. -/
theorem exec_next_keeps_pending (c : Instr) (s : State) : ∃ t, exec c s = .next t ∧ t.pending = s.pending := by
  cases c with
  | powerOn => exact ⟨_, rfl, rfl⟩
  | memoryTransactionFailure cause => exact ⟨_, rfl, guarded_pending _ rfl⟩
  | memoryRetryWaitEnd => exact ⟨_, rfl, guarded_pending _ rfl⟩
  | configurationReadComplete record => exact ⟨_, rfl, guarded_pending _ (by split <;> rfl)⟩
  | listeningWindowEnd => exact ⟨_, rfl, guarded_pending _ (offer_pending ..)⟩
  | idleTime => exact ⟨_, rfl, guarded_pending _ rfl⟩
  | leadCharacter data moves =>
    refine ⟨_, rfl, guarded_pending _ ?_⟩
    split
    · rfl
    · exact leadCharacter_pending data _ (startBit s)
  | dataCharacter data =>
    refine ⟨_, rfl, guarded_pending _ ?_⟩
    split
    · exact addCharacter_pending _ _ (startBit s)
    all_goals rfl
  | framingError => exact ⟨_, rfl, guarded_pending _ (framingError_pending (startBit s))⟩
  | messageComplete data =>
    refine ⟨_, rfl, guarded_pending _ ?_⟩
    split
    · exact guarded_pending _ (completeMessage_pending _ _ (startBit s))
    all_goals rfl
  | lineIdleComplete =>
    exact ⟨_, rfl, guarded_pending _ ((idleComplete_pending _).trans (guarded_pending _ (leaveStuck_pending s)))⟩
  | slot => exact ⟨_, rfl, guarded_pending _ rfl⟩
  | attemptStart =>
    refine ⟨_, rfl, guarded_pending _ ?_⟩
    split
    · exact beginAttempt_pending true s
    · exact guarded_pending _ (beginAttempt_pending false s)
  | collision =>
    refine ⟨_, rfl, ?_⟩
    split
    · exact (setTx_pending ..).trans (collide_pending _ (count .collisions s))
    all_goals rfl
  | breakEnd =>
    refine ⟨_, rfl, ?_⟩
    split <;> rfl
  | messageSent =>
    refine ⟨_, rfl, ?_⟩
    split
    · exact sent_pending _ s
    all_goals rfl
  | lineStuck => exact ⟨_, rfl, guarded_pending _ (enterStuck_pending s)⟩
  | silenceTimeout => exact ⟨_, rfl, guarded_pending _ (silenceOut_pending s)⟩
  | claim =>
    exact ⟨_, rfl, takeMessage_pending _
      (fun m => withBody_pending (fun b s => (changesTrack_remoteClaim m.src b s).pending_eq) _) s⟩
  | release =>
    exact ⟨_, rfl, takeMessage_pending _
      (fun m => withBody_pending (fun n s => (changesTrack_releaseBlock _ n m.src s).pending_eq) _) s⟩
  | trainPlace =>
    exact ⟨_, rfl, takeMessage_pending _
      (fun _ => withBody_pending (fun _ s => guarded_pending _ (changesTrack_placeTrain _ _ _ _ s).pending_eq) _) s⟩
  | grant => exact ⟨_, rfl, takeMessage_pending _ takeGrant_pending s⟩
  | refuse =>
    exact ⟨_, rfl, takeMessage_pending _ (fun _ => withBody_pending (fun _ s => updateClaim_pending s ..) _) s⟩
  | blockState =>
    exact ⟨_, rfl, takeMessage_pending _
      (fun _ => withBody_pending (fun r s => (changesTrack_applyReport r s).pending_eq) _) s⟩
  | trainOrderSpeed =>
    exact ⟨_, rfl, takeMessage_pending _
      (fun _ => withBody_pending (fun n s => (changesTrack_orderSpeed n _ s).pending_eq) _) s⟩
  | trainOrderStop =>
    exact ⟨_, rfl, takeMessage_pending _
      (fun _ => withBody_pending (fun n s => (changesTrack_orderStop n s).pending_eq) _) s⟩
  | trainOrderReverse =>
    exact ⟨_, rfl, takeMessage_pending _
      (fun _ => withBody_pending (fun n s => (changesTrack_orderReverse n s).pending_eq) _) s⟩
  | trainOrderRemove =>
    exact ⟨_, rfl, takeMessage_pending _
      (fun _ => withBody_pending (fun n s => (changesTrack_orderRemove n s).pending_eq) _) s⟩
  | timeMark =>
    exact ⟨_, rfl, takeMessage_pending _ (fun m => withBody_pending (applyTimeMark_pending m.stamp) _) s⟩
  | announce =>
    exact ⟨_, rfl, takeMessage_pending _ (fun m => withBody_pending (applyAnnounce_pending m.src) _) s⟩
  | showEvent => exact ⟨_, rfl, takeMessage_pending _ takeShowEvent_pending s⟩
  | cueLoad => exact ⟨_, rfl, takeMessage_pending _ takeCueLoad_pending s⟩
  | cueClear =>
    exact ⟨_, rfl, takeMessage_pending _
      (fun _ s => (clearCues_pending _).trans (changesByActions_settleOwn s).pending_eq) s⟩
  | lampOrderSet =>
    exact ⟨_, rfl, takeMessage_pending _ (fun _ => withBody_pending (fun _ _ => lampSet_pending ..) _) s⟩
  | lampOrderClear =>
    exact ⟨_, rfl, takeMessage_pending _ (fun _ => withBody_pending (fun g s => lampClear_pending s g) _) s⟩
  | rotaryOrderRun =>
    exact ⟨_, rfl, takeMessage_pending _
      (fun _ => withBody_pending (fun c s => (changesByActions_rotaryRun c _ s).pending_eq) _) s⟩
  | rotaryOrderStop =>
    exact ⟨_, rfl, takeMessage_pending _
      (fun _ => withBody_pending (fun c s => (changesByActions_rotaryStop c s).pending_eq) _) s⟩
  | rotaryOrderClear =>
    exact ⟨_, rfl, takeMessage_pending _
      (fun _ => withBody_pending (fun c s => (changesByActions_rotaryClear c s).pending_eq) _) s⟩
  | powerOrder =>
    exact ⟨_, rfl, takeMessage_pending _
      (fun _ => withBody_pending (fun p s => (changesByActions_setLevel p s).pending_eq) _) s⟩
  | queryStatus => exact ⟨_, rfl, takeMessage_pending _ (takeQuery_pending showFaults_pending _ _) s⟩
  | queryBlocks => exact ⟨_, rfl, takeMessage_pending _ (takeQuery_pending (fun _ => rfl) _ _) s⟩
  | queryTrains => exact ⟨_, rfl, takeMessage_pending _ (fun m => takeQuery_pending (fun _ => rfl) _ _ m) s⟩
  | queryCounters =>
    exact ⟨_, rfl, takeMessage_pending _ (fun m => takeQuery_pending (clearCounters_pending _) _ _ m) s⟩
  | queryCues => exact ⟨_, rfl, takeMessage_pending _ (takeQuery_pending (fun _ => rfl) _ _) s⟩
  | queryPeers => exact ⟨_, rfl, takeMessage_pending _ (takeQuery_pending (fun _ => rfl) _ _) s⟩
  | report => exact ⟨_, rfl, takeMessage_pending _ (fun _ _ => rfl) s⟩
  | faultNotice => exact ⟨_, rfl, takeMessage_pending _ (fun _ _ => rfl) s⟩
  | restart => exact ⟨_, rfl, takeMessage_pending _ (fun _ => restart_pending) s⟩
  | ageStep => exact ⟨_, rfl, guarded_pending _ (changesClash_settleClash _ s).pending_eq⟩
  | announceInterval => exact ⟨_, rfl, guarded_pending _ (offer_pending ..)⟩
  | clockStep => exact ⟨_, rfl, guarded_pending _ (clockStep_pending s)⟩
  | timeMarkInterval => exact ⟨_, rfl, guarded_pending _ (offer_pending ..)⟩
  | detectorSample currents sensors => exact ⟨_, rfl, guarded_pending _ (detectorSample_pending currents sensors s)⟩
  | cooloffEnd block => exact ⟨_, rfl, updateBlock_pending ..⟩
  | reservationExpiry block => exact ⟨_, rfl, expire_pending block s⟩
  | speedStep => exact ⟨_, rfl, guarded_pending _ (changesTrack_speedStep s).pending_eq⟩
  | answerTimeout train => exact ⟨_, rfl, updateClaimOf_pending ..⟩
  | retryWaitEnd train => exact ⟨_, rfl, updateClaimOf_pending ..⟩
  | governorStep temperature => exact ⟨_, rfl, guarded_pending _ (governorStep_pending temperature s)⟩
  | lampStep => exact ⟨_, rfl, guarded_pending _ (lampStep_pending s)⟩
  | rotaryStep => exact ⟨_, rfl, guarded_pending _ rfl⟩
  | indexPulse channel => exact ⟨_, rfl, guarded_pending _ (setRotary_pending ..)⟩
  | heldTimerExpiry channel => exact ⟨_, rfl, guarded_pending _ (raiseFault_pending ..)⟩
  | stallTimerExpiry channel => exact ⟨_, rfl, guarded_pending _ (raiseFault_pending ..)⟩
  | ownEvent => exact ⟨_, rfl, guarded_pending _ (changesByActions_takeOwn s).pending_eq⟩

/-- The steps and timers a station takes only while Listening or Running leave any other station as it is. -/
theorem exec_of_inactive {s : State} (h : s.active = false) (reading : Int) (currents : List Nat)
    (sensors : List EndSensors) (ch : Chan) :
    ∀ c ∈ [Instr.ageStep, .clockStep, .speedStep, .lampStep, .rotaryStep, .governorStep reading,
      .detectorSample currents sensors, .indexPulse ch, .heldTimerExpiry ch, .stallTimerExpiry ch, .ownEvent,
      .lineIdleComplete, .slot, .lineStuck, .silenceTimeout], exec c s = .next s := by
  -- each of these commands is `.next` of a choice whose guard holds `s.active`
  simp [exec, execAgeStep, execClockStep, execSpeedStep, execLampStep, execRotaryStep, execGovernorStep,
    execDetectorSample, execIndexPulse, execHeldTimerExpiry, execStallTimerExpiry, execOwnEvent, execLineIdleComplete,
    execSlot, execLineStuck, execSilenceTimeout, h]

theorem step_of_no_command {s : State} (h : s.pending = []) : step s = .next s := by
  simp [step, h]

/-- Settles O2: command by command, by what each operation does to the commands that wait. -/
theorem everyCommandAnswersNext : Obligations.EveryCommandAnswersNext :=
  ⟨exec_next_keeps_pending, fun _ => step_of_no_command,
    fun _ reading currents sensors ch h => exec_of_inactive h reading currents sensors ch⟩

end Sys2Proof.Machine
end

section
/-! SUPPORT. The load governor: what a Power order, the parts of the governor step and an admission do, and with them
the statements of the load governor. -/

namespace Sys2Proof.Machine

/-! ### Rotary channels by their state (R117, R151, R155 to R157) -/

section
variable (r : Rotary)

/-- The states in motion are the four of R117. -/
theorem RotState.inMotion_iff (x : RotState) :
    x.inMotion = true ↔ x = .starting ∨ x = .running ∨ x = .stopping ∨ x = .seeking := by
  cases x <;> decide

theorem Rotary.reserve_eq (cfg : RotCfg) :
    r.reserve cfg = if cfg.configured = true ∧
      (r.state = .starting ∨ r.state = .running ∨ r.state = .stopping ∨ r.state = .seeking)
    then cfg.runCurrent else 0 := by
  simp only [Rotary.reserve, Bool.and_eq_true, RotState.inMotion_iff]

theorem Rotary.forbid_eq :
    r.forbid = if r.state = .starting ∨ r.state = .running then
      { r with state := .stopping, remaining := 0, stallTimer := none } else r := by
  cases h : r.state <;> simp [Rotary.forbid, h]

theorem Rotary.trip_eq :
    r.trip = if r.state = .starting ∨ r.state = .running then
        { r with state := .halted, drive := 0, stallTimer := none, parkOnly := false }
      else if r.state = .stopping ∨ r.state = .seeking then
        { r with state := .halted, drive := 0, stallTimer := none, parkOnly := true, remaining := 0 }
      else r := by
  cases h : r.state <;> simp [Rotary.trip, h]

theorem Rotary.tripEnd_eq :
    r.tripEnd = if r.state = .halted then { r with state := .held, heldTimer := none } else r := by
  cases h : r.state <;> simp [Rotary.tripEnd, h]

end

/-! ### The Power order (R63, R110, R155) -/

theorem PowerLevel.ofCode_eq_none {code : Nat} (h : code = 0 ∨ 3 < code) : PowerLevel.ofCode code = none :=
  match code with
  | 0 => rfl
  | 1 | 2 | 3 => by omega
  | _ + 4 => rfl

/-- POWER_ORDER with its message takes it. -/
theorem exec_powerOrder {s : State} {m : InMsg} {rest : List InMsg} (h : s.offersHead m rest)
    (hk : m.kind = .powerOrder) :
    exec .powerOrder s = .next (withBody (PowerLevel.ofCode (byteAt m.body 0)) setLevel (s.took rest)) := by
  have hm : (m.kind == Kind.powerOrder) = true := by simp [hk]
  exact congrArg Host.Outcome.next (takeMessage_head _ takePowerOrder s m rest h hm)

theorem setLevel_same {p : PowerLevel} {s : State} (h : s.gov.level = p) : setLevel p s = s := if_pos h

/-- A level that is not the present one is in force, and the rotaries follow it (R110, R155). -/
theorem setLevel_other {p : PowerLevel} {s : State} (h : s.gov.level ≠ p) :
    setLevel p s =
      { s with gov := { s.gov with level := p }
               rotary := if (s.settings.desc p).rotaries then s.rotary else s.rotary.map Rotary.forbid } := if_neg h

/-- A booster of a station at work is driven up to the cap of the present level (R63). -/
theorem booster_driven {s : State} {b : Block} {value : Nat} {dir : Dir} (ha : s.active = true)
    (ht : s.gov.temp ≠ .tripped) (hc : b.coolOff = none) (hd : s.driveOf b = some (value, dir)) :
    s.booster b = .driven (min value (s.settings.desc s.gov.level).cap) dir := by
  simp [State.booster, ha, ht, hc, hd]

/-- Settles O45: the order is malformed or names a level, and the level is the present one or another. -/
theorem powerOrderTaken : Obligations.PowerOrderTaken := by
  intro s m rest hhead hkind code u stops
  have htaken := exec_powerOrder hhead hkind
  refine ⟨fun hbad => ?_, fun p hp => ⟨fun hsame => ?_, fun hother => ?_⟩⟩
  · rw [htaken, PowerLevel.ofCode_eq_none hbad, withBody_none]
  · rw [htaken, hp, withBody, setLevel_same (s := s.took rest) hsame]
  · refine .of_next (t := setLevel p u) (by rw [htaken, hp, withBody]) ?_
    rw [setLevel_other (s := u) hother]
    refine ⟨rfl, fun hallowed => if_pos hallowed, fun hforbidden => ?_, fun b value dir => booster_driven hhead.1⟩
    refine (if_neg (by rw [State.took_settings, hforbidden]; decide)).trans ?_
    simp only [RotaryUnit.map, Rotary.forbid_eq]
    rfl

/-! ### The fault classes Warm and Trip (R114, R185) -/

/-- An offer fares alike in both states: the line, its counters, the settings and the station state agree. -/
def State.offersAlike (s t : State) : Prop :=
  t.line = s.line ∧ t.counters = s.counters ∧ t.settings = s.settings ∧ t.loader = s.loader

theorem State.offersAlike.trans {a b c : State} (h : a.offersAlike b) (h' : b.offersAlike c) : a.offersAlike c := by
  obtain ⟨hline, hcounters, hsettings, hloader⟩ := h
  obtain ⟨hline', hcounters', hsettings', hloader'⟩ := h'
  exact ⟨hline'.trans hline, hcounters'.trans hcounters, hsettings'.trans hsettings, hloader'.trans hloader⟩

/-- A routine offer leaves the urgent queue (R12). -/
theorem offer_urgent_of_routine {m : OutMsg} (h : m.kind.urgent = false) (s : State) :
    (offer m s).line.urgent = s.line.urgent := by
  unfold offer
  split
  · simp only [Line.offered, h]
    split <;> rfl
  · rfl

/-- Only the fault sets, the routine queue and OutDrop change. -/
def State.changesFaults (s t : State) : Prop :=
  t = { s with faults := t.faults, line := { s.line with routine := t.line.routine }
               counters := { s.counters with outDrop := t.counters.outDrop } }

theorem State.changesFaults.trans {a b c : State} (h : a.changesFaults b) (h' : b.changesFaults c) :
    a.changesFaults c := by
  unfold changesFaults at *; rw [h', h]

@[simp] theorem raiseFault_faults (k : FaultClass) (d : Nat) (s : State) :
    (raiseFault k d s).faults =
      { active := s.faults.active.set k true, fresh := s.faults.fresh.set k true } := by
  rw [raiseFault_eq]

@[simp] theorem raiseFault_urgent (k : FaultClass) (d : Nat) (s : State) :
    (raiseFault k d s).line.urgent = s.line.urgent := by
  rcases raiseFault_cases k d s with ⟨-, h⟩ | ⟨-, h⟩ <;> rw [h]
  exact offer_urgent_of_routine rfl _

theorem changesFaults_raiseFault (k : FaultClass) (d : Nat) (s : State) : s.changesFaults (raiseFault k d s) := by
  unfold State.changesFaults
  conv => lhs; rw [raiseFault_eq]
  simp

/-- A raise offers its notice, unless the mask holds the class, and does nothing else to the line (R185). -/
theorem raiseFault_told (k : FaultClass) (d : Nat) {s u : State} (h : s.offersAlike u) :
    let told := if s.settings.mask.get k = false then offer (faultNoticeMsg k d) s else s
    (raiseFault k d u).line = told.line ∧ (raiseFault k d u).counters = told.counters := by
  obtain ⟨hline, hcounters, hsettings, hloader⟩ := h
  rcases raiseFault_cases k d u with ⟨hmask, heq⟩ | ⟨hmask, heq⟩ <;> rw [hsettings] at hmask <;> rw [heq]
  · simp [hmask, hline, hcounters]
  · simp only [hmask, if_true]
    exact offer_congr _ hline hcounters (by simp only [State.isRunning, hloader])

/-- The fault class of a temperature state (R114). -/
def TempState.fault : TempState → Option FaultClass
  | .normal => none
  | .warm => some .warm
  | .tripped => some .trip

@[simp] theorem TempState.fault_eq_warm (t : TempState) : t.fault = some .warm ↔ t = .warm := by cases t <;> decide

@[simp] theorem TempState.fault_eq_trip (t : TempState) : t.fault = some .trip ↔ t = .tripped := by cases t <;> decide

/-- The fault class of the temperature state left has ended (R114). -/
def endFaultOf (old : TempState) (s : State) : State := old.fault.elim s fun k => endFault k s

section
variable {old new : TempState} {reading : Int} (s : State)

/-- Where the temperature state stays, so do its fault classes. -/
theorem tempFaults_same (t : TempState) : tempFaults t t reading s = s := if_pos rfl

/-- At a change of the temperature state the class left ends, and after it the class entered starts. -/
theorem tempFaults_of_ne (h : old ≠ new) :
    tempFaults old new reading s =
      new.fault.elim (endFaultOf old s) fun k => raiseFault k reading.toNat (endFaultOf old s) := by
  unfold tempFaults
  rw [if_neg h]
  cases old <;> cases new <;> rfl

theorem changesFaults_endFaultOf (old : TempState) : s.changesFaults (endFaultOf old s) := by
  cases old <;> exact rfl

theorem endFaultOf_offersAlike (old : TempState) : s.offersAlike (endFaultOf old s) := by
  cases old <;> exact ⟨rfl, rfl, rfl, rfl⟩

/-- Following the temperature, the fault classes change the fault sets, the routine queue and OutDrop. -/
theorem tempFaults_eq (old new : TempState) :
    let t := tempFaults old new reading s
    t = { s with faults := t.faults, line := { s.line with routine := t.line.routine }
                 counters := { s.counters with outDrop := t.counters.outDrop } } := by
  change s.changesFaults _
  by_cases h : old = new
  · subst h; rw [tempFaults_same]; exact rfl
  · rw [tempFaults_of_ne s h]
    cases new.fault with
    | none => exact changesFaults_endFaultOf s old
    | some k => exact (changesFaults_endFaultOf s old).trans (changesFaults_raiseFault k _ _)

theorem endFaultOf_active (old : TempState) (k : FaultClass) :
    (endFaultOf old s).faults.active.get k = if old.fault = some k then false else s.faults.active.get k := by
  unfold endFaultOf
  cases old.fault with
  | none => simp
  | some j => simp [FaultSet.get_set, eq_comm]

/-- After a change the class entered is active, the class left is not, and the others are as before. -/
theorem tempFaults_active (h : old ≠ new) (k : FaultClass) :
    (tempFaults old new reading s).faults.active.get k =
      if new.fault = some k then true else if old.fault = some k then false else s.faults.active.get k := by
  rw [tempFaults_of_ne s h, ← endFaultOf_active]
  cases new.fault with
  | none => simp
  | some j => simp [FaultSet.get_set, eq_comm]

/-- The class entered is new. -/
theorem tempFaults_fresh (h : old ≠ new) (k : FaultClass) (hk : new.fault = some k) :
    (tempFaults old new reading s).faults.fresh.get k = true := by
  rw [tempFaults_of_ne s h, hk]
  simp [FaultSet.get_set]

/-- Warm and Trip follow a change of the temperature state: the one entered is active and new, the one left is not
active (R114). -/
theorem tempFaults_follow (h : old ≠ new) :
    let f := (tempFaults old new reading s).faults
    (new = .warm → f.active.warm = true ∧ f.fresh.warm = true) ∧
      (new = .tripped → f.active.trip = true ∧ f.fresh.trip = true) ∧
      (old = .warm → f.active.warm = false) ∧ (old = .tripped → f.active.trip = false) := by
  intro f
  have hnow (k : FaultClass) : f.active.get k = _ := tempFaults_active s h k
  have hfresh (k : FaultClass) (hk : new.fault = some k) : f.fresh.get k = true := tempFaults_fresh s h k hk
  have hleft (x : TempState) (hx : old = x) : new ≠ x := fun hn => h (hx.trans hn.symm)
  refine ⟨fun hn => ⟨(hnow .warm).trans ?_, hfresh .warm ?_⟩, fun hn => ⟨(hnow .trip).trans ?_, hfresh .trip ?_⟩,
    fun ho => (hnow .warm).trans ?_, fun ho => (hnow .trip).trans ?_⟩
  · simp [hn]
  · simp [hn]
  · simp [hn]
  · simp [hn]
  · simp [ho, hleft _ ho]
  · simp [ho, hleft _ ho]

/-- A change that enters Warm or Tripped tells its start as a raise of the class does; no other tells anything. -/
theorem tempFaults_told (old new : TempState) {u : State} (h : s.offersAlike u) :
    let told :=
      if old ≠ .warm ∧ new = .warm ∧ s.settings.mask.warm = false then offer (faultNoticeMsg .warm reading.toNat) s
      else if old ≠ .tripped ∧ new = .tripped ∧ s.settings.mask.trip = false then
        offer (faultNoticeMsg .trip reading.toNat) s
      else s
    (tempFaults old new reading u).line = told.line ∧ (tempFaults old new reading u).counters = told.counters := by
  by_cases hsame : old = new
  · subst hsame
    have hquiet (x : TempState) (p : Prop) : ¬(old ≠ x ∧ old = x ∧ p) := fun hx => hx.1 hx.2.1
    simp only [tempFaults_same, hquiet, if_false]
    exact ⟨h.1, h.2.1⟩
  · have hended : s.offersAlike (endFaultOf old u) := h.trans (endFaultOf_offersAlike u old)
    rw [tempFaults_of_ne u hsame]
    cases new with
    | normal =>
      simp only [ne_eq, reduceCtorEq, false_and, and_false, ↓reduceIte]
      exact ⟨hended.1, hended.2.1⟩
    | warm =>
      simp only [ne_eq, hsame, not_false_eq_true, true_and, reduceCtorEq, false_and, and_false, ↓reduceIte]
      exact raiseFault_told .warm reading.toNat hended
    | tripped =>
      simp only [ne_eq, hsame, not_false_eq_true, true_and, reduceCtorEq, false_and, and_false, ↓reduceIte]
      exact raiseFault_told .trip reading.toNat hended

end

/-! ### The temperature (R113, R121, R123) -/

theorem tempAfter_eq (st : Settings) (old : TempState) (reading : Int) :
    tempAfter st old reading =
      if (st.critTemp : Int) ≤ reading then .tripped
      else if old = .normal then (if (st.warnTemp : Int) ≤ reading then .warm else .normal)
      else if reading ≤ (st.warnTemp : Int) - 10 then .normal else old := by
  cases old <;> simp [tempAfter]

/-- A value by whether a trip starts, ends, or neither. -/
def atTripEdge {α : Type} (old new : TempState) (start ending same : α) : α :=
  if old ≠ .tripped ∧ new = .tripped then start else if old = .tripped ∧ new ≠ .tripped then ending else same

/-- The present speeds of all trains are 0 (R83). -/
def TrainTable.stopped (t : TrainTable) : TrainTable :=
  { t with records := t.records.map fun x => { x with present := 0 } }

/-- A channel after the trip, or its end, has reached it (R156, R157). -/
def Rotary.handed (old new : TempState) (r : Rotary) : Rotary := atTripEdge old new r.trip r.tripEnd r

/-- The reading and the temperature state it leads to are noted (R113). -/
def State.noted (reading : Int) (s : State) : State :=
  { s with gov := { s.gov with latest := reading, temp := tempAfter s.settings s.gov.temp reading } }

/-- A change of the temperature state hands the start of a trip, its end, or nothing (R121, R123). -/
theorem handTripEdge_eq (old new : TempState) (s : State) :
    (if old ≠ .tripped ∧ new = .tripped then handTrip s
      else if old = .tripped ∧ new ≠ .tripped then handTripEnd s else s) =
    { s with trains := atTripEdge old new s.trains.stopped s.trains s.trains
             lamps := atTripEdge old new s.lamps.trip s.lamps.tripEnd s.lamps
             rotary := s.rotary.map (Rotary.handed old new) } := by
  unfold Rotary.handed atTripEdge
  split
  · rfl
  · split <;> rfl

/-- Step 1 notes the reading, lets the fault classes follow, and hands the start or the end of a trip to the trains, the
lamps and the rotaries. -/
theorem govTemperature_eq (reading : Int) (s : State) :
    let old := s.gov.temp
    let new := tempAfter s.settings old reading
    govTemperature reading s =
      { tempFaults old new reading (s.noted reading) with
        trains := atTripEdge old new s.trains.stopped s.trains s.trains
        lamps := atTripEdge old new s.lamps.trip s.lamps.tripEnd s.lamps
        rotary := s.rotary.map (Rotary.handed old new) } := by
  intro old new
  have hnoted := tempFaults_eq (reading := reading) (s.noted reading) old new
  refine (handTripEdge_eq old new (tempFaults old new reading (s.noted reading))).trans ?_
  rw [hnoted]
  rfl

/-! ### Admission (R118, R151) -/

section
variable (s : State) (c : Chan)

theorem admits_iff :
    s.admits c = true ↔ (s.rotary.get c).state = .held ∧ (s.settings.desc s.gov.level).rotaries = true ∧
      s.gov.temp ≠ .tripped ∧
      ((s.settings.rot c).runCurrent : Int) ≤ (s.gov.working : Int) - s.gov.boosterB - s.rotaryQ := by
  simp [State.admits, State.rotaryAllowed, and_assoc]

/-- Considering a channel changes the rotary unit alone. -/
theorem consider_eq : consider c s = { s with rotary := (consider c s).rotary } := by
  unfold consider; split <;> rfl

theorem consider_gov : (consider c s).gov = s.gov := by rw [consider_eq]

theorem consider_settings : (consider c s).settings = s.settings := by rw [consider_eq]

variable {s c}

/-- A channel that is admitted moves (R151). -/
theorem consider_get_admitted (h : s.admits c = true) :
    (consider c s).rotary.get c = (s.rotary.get c).admitted (s.settings.rot c) := by
  rw [consider, if_pos h]; cases c <;> rfl

/-- A channel that is not admitted stays as it is. -/
theorem consider_get_refused (h : ¬s.admits c = true) : (consider c s).rotary.get c = s.rotary.get c := by
  rw [consider, if_neg h]

end

theorem consider_ch0_ch1 (s : State) : (consider .ch0 s).rotary.ch1 = s.rotary.ch1 := by
  unfold consider; split <;> rfl

theorem consider_ch1_ch0 (s : State) : (consider .ch1 s).rotary.ch0 = s.rotary.ch0 := by
  unfold consider; split <;> rfl

/-! ### The governor step (R111) -/

/-- The state in which the governor step considers channel 0: temperature, budget, working budget and B are formed. -/
def State.budgeted (reading : Int) (s : State) : State := govBudget (govTemperature reading s)

section
variable (reading : Int) (s : State)

/-- The admissions and the allowance change the rotary unit and the governor alone. -/
theorem governorStep_eq :
    let t := governorStep reading s
    t = { govTemperature reading s with gov := t.gov, rotary := t.rotary } := by
  intro t
  have h : t = publishAllowance (consider .ch1 (consider .ch0 (s.budgeted reading))) := rfl
  rw [h, consider_eq, consider_eq]
  rfl

/-- The governor before the admissions (R112, R113, R115, R116). -/
theorem budgeted_gov :
    let new := tempAfter s.settings s.gov.temp reading
    let effective := settled (s.settings.desc s.gov.level) s.gov.effective
    (s.budgeted reading).gov =
      { s.gov with latest := reading, temp := new, effective := effective
                   working := workingBudget new effective, boosterB := s.samplesSum } := by
  intro new effective
  rw [State.budgeted, govTemperature_eq, tempFaults_eq]
  rfl

/-- The governor of the step is as formed before the admissions, but for the allowance. -/
theorem governorStep_gov :
    let t := governorStep reading s
    t.gov = { (s.budgeted reading).gov with
      allowance := (s.budgeted reading).gov.working - (s.budgeted reading).gov.boosterB - t.rotaryQ } := by
  intro t
  have h : t.gov = (publishAllowance (consider .ch1 (consider .ch0 (s.budgeted reading)))).gov := rfl
  simp only [h, publishAllowance, consider_gov]
  rfl

theorem budgeted_settings : (s.budgeted reading).settings = s.settings := by
  rw [State.budgeted, govTemperature_eq, tempFaults_eq]
  rfl

/-- Before the admissions the trip, or its end, has reached the channels (R121, R123). -/
theorem budgeted_rotary :
    (s.budgeted reading).rotary =
      s.rotary.map (Rotary.handed s.gov.temp (tempAfter s.settings s.gov.temp reading)) := by
  rw [State.budgeted, govTemperature_eq]
  rfl

/-- The step changes, beside the governor, the trains, lamps, rotaries and fault sets, the routine queue and OutDrop. -/
theorem governorStep_frame :
    let t := governorStep reading s
    t = { s with gov := t.gov, trains := t.trains, lamps := t.lamps, rotary := t.rotary, faults := t.faults
                 line := { s.line with routine := t.line.routine }
                 counters := { s.counters with outDrop := t.counters.outDrop } } := by
  intro t
  have h : t = _ := governorStep_eq reading s
  rw [h, govTemperature_eq, tempFaults_eq]
  rfl

/-- The temperature state after the step. -/
theorem governorStep_temp : (governorStep reading s).gov.temp = tempAfter s.settings s.gov.temp reading := by
  rw [governorStep_gov, budgeted_gov]

/-- The trip, and its end, by the temperature states before and after the step (R83, R121, R123). -/
theorem governorStep_trains :
    (governorStep reading s).trains =
      atTripEdge s.gov.temp (governorStep reading s).gov.temp s.trains.stopped s.trains s.trains := by
  rw [governorStep_temp, governorStep_eq, govTemperature_eq]

theorem governorStep_lamps :
    (governorStep reading s).lamps =
      atTripEdge s.gov.temp (governorStep reading s).gov.temp s.lamps.trip s.lamps.tripEnd s.lamps := by
  rw [governorStep_temp, governorStep_eq, govTemperature_eq]

/-- Fault sets, line and counters are those the fault classes of the temperature leave. -/
theorem governorStep_tempFaults :
    let t := governorStep reading s
    let u := tempFaults s.gov.temp t.gov.temp reading (s.noted reading)
    t.faults = u.faults ∧ t.line = u.line ∧ t.counters = u.counters := by
  intro t u
  simp only [u, t, governorStep_temp]
  rw [governorStep_eq, govTemperature_eq]
  exact ⟨rfl, rfl, rfl⟩

end

theorem workingBudget_eq (t : TempState) (effective : Nat) :
    workingBudget t effective =
      if t = .normal then effective else if t = .warm then effective * 3 / 4 else 0 := by
  cases t <;> rfl

theorem exec_governorStep (reading : Int) (s : State) (h : s.active = true) :
    exec (.governorStep reading) s = .next (governorStep reading s) := by
  simp [exec, execGovernorStep, h]

/-- Settles O46: the temperature state and what follows it come from step 1, the budgets from steps 2 to 4, the
allowance from the last. -/
theorem governorStepBudget : Obligations.GovernorStepBudget := by
  intro s reading hactive
  refine .of_next (exec_governorStep reading s hactive) ?_
  intro warn d old new
  have hgov := governorStep_gov reading s
  have hbudget := budgeted_gov reading s
  obtain ⟨hfaults, hline, hcounters⟩ := governorStep_tempFaults reading s
  obtain ⟨htoldLine, htoldCounters⟩ :=
    tempFaults_told (reading := reading) s old new (u := s.noted reading) ⟨rfl, rfl, rfl, rfl⟩
  refine ⟨governorStep_frame reading s, (governorStep_temp reading s).trans (tempAfter_eq ..), by rw [hgov, hbudget],
    by rw [hgov, hbudget], by rw [hgov, hbudget]; rfl, ?working, by rw [hgov, hbudget]; rfl, ?allowance, ?trains,
    governorStep_lamps reading s, fun hsame => ?unchanged, ⟨hline.trans htoldLine, hcounters.trans htoldCounters⟩,
    fun hchange => hfaults ▸ tempFaults_follow (s.noted reading) hchange⟩
  case working =>
    rw [← workingBudget_eq]
    simp only [new, hgov, hbudget]
  case allowance =>
    simp only [hgov]
    omega
  case trains =>
    refine (governorStep_trains reading s).trans ?_
    simp only [atTripEdge, ite_self]
    rfl
  case unchanged =>
    have hnone : tempFaults old new reading (s.noted reading) = s.noted reading := by rw [← hsame, tempFaults_same]
    refine hfaults.trans ?_
    exact (congrArg State.faults hnone :)

/-- Settles O47: the trip, or its end, has reached the channels when they are considered, and each is admitted or not
with what stands before it. -/
theorem governorAdmitsRotaries : Obligations.GovernorAdmitsRotaries := by
  intro s reading hactive
  refine .of_next (exec_governorStep reading s hactive) ?_
  intro halts waits handed moves fits c0 c1 r0 r1
  let before := s.budgeted reading
  let between := consider .ch0 before
  have hgov := governorStep_gov reading s
  have hlevel : before.gov.level = s.gov.level := by rw [budgeted_gov]
  have hsettings : before.settings = s.settings := budgeted_settings reading s
  have hsettings' : between.settings = s.settings := (consider_settings before .ch0).trans hsettings
  have hbefore : before.rotary = { ch0 := r0, ch1 := r1 } := by
    refine (budgeted_rotary reading s).trans ?_
    simp only [RotaryUnit.map, ← governorStep_temp, Rotary.handed, atTripEdge, Rotary.trip_eq, Rotary.tripEnd_eq]
    rfl
  have hch1 : between.rotary.get .ch1 = r1 := (consider_ch0_ch1 before).trans (by rw [hbefore])
  have hend0 : (governorStep reading s).rotary.ch0 = between.rotary.get .ch0 := consider_ch1_ch0 between
  have hend1 : (governorStep reading s).rotary.ch1 = (consider .ch1 between).rotary.get .ch1 := rfl
  have hfits0 : before.admits .ch0 = true ↔ fits c0 r0 (r0.reserve c0 + r1.reserve c1) := by
    rw [admits_iff, State.rotaryQ, hbefore, hsettings, hlevel]
    simp only [fits, hgov]
    rfl
  have hfits1 : between.admits .ch1 = true ↔
      fits c1 r1 ((governorStep reading s).rotary.ch0.reserve c0 + r1.reserve c1) := by
    have hq : between.rotaryQ = (governorStep reading s).rotary.ch0.reserve c0 + r1.reserve c1 := by
      rw [State.rotaryQ, hsettings', hend0, ← hch1]
      rfl
    rw [admits_iff, hq, hch1, hsettings', consider_gov, hlevel]
    simp only [fits, hgov]
    rfl
  refine ⟨fun h => hend0.trans ?_, fun h => hend0.trans ?_, fun h => hend1.trans ?_, fun h => hend1.trans ?_,
    fun cfg r => r.reserve_eq cfg⟩
  · rw [consider_get_admitted (hfits0.mpr h), hbefore, hsettings]
    rfl
  · rw [consider_get_refused (mt hfits0.mp h), hbefore]
    rfl
  · rw [consider_get_admitted (hfits1.mpr h), hch1, hsettings']
    rfl
  · rw [consider_get_refused (mt hfits1.mp h), hch1]

end Sys2Proof.Machine
end

section
/-! SUPPORT. The lamp engine: what the updates of a group leave of the others, the Lamp orders, and the lamp step channel
by channel, with the bound on what the lamps draw. -/

namespace Sys2Proof.Machine

/-! ### Groups -/

theorem Lamps.group_setGroup (l : Lamps) (g h : Group) (x : LampGroup) :
    (l.setGroup g x).group h = if h = g then x else l.group h := by
  cases g <;> cases h <;> rfl

theorem Lamps.group_mapGroups (l : Lamps) (f : Group → LampGroup → LampGroup) (g : Group) :
    (l.mapGroups f).group g = f g (l.group g) := by
  cases g <;> rfl

theorem Group.ofCode_eq_none {code : Nat} (h : 3 < code) : Group.ofCode code = none := by
  match code, h with
  | _ + 4, _ => rfl

/-! ### Lamp orders (R137 to R139) -/

section
variable {s : State} {m : InMsg} {rest : List InMsg} (h : s.offersHead m rest) (hk : m.kind = .lampOrder)
include h hk

/-- LAMP_ORDER_SET with its message takes it. -/
theorem exec_lampOrderSet (hset : byteAt m.body 1 = 1) :
    exec .lampOrderSet s = .next (withBody (Group.ofCode (byteAt m.body 0))
      (fun g u => lampSet g (min 1000 (num2 m.body 2)) (untilOf (num2 m.body 4)) u.clock.time u) (s.took rest)) := by
  have hm : isLampOrder 1 m = true := by simp [isLampOrder, lampActionOf, hk, hset]
  refine congrArg Host.Outcome.next ((takeMessage_head _ takeLampSet s m rest h hm).trans ?_)
  rw [takeLampSet, lampOrderGroup, lampActionOf, if_pos hset]

/-- LAMP_ORDER_CLEAR with its message takes it. -/
theorem exec_lampOrderClear (hclear : byteAt m.body 1 = 2) :
    exec .lampOrderClear s = .next (withBody (Group.ofCode (byteAt m.body 0)) lampClear (s.took rest)) := by
  have hm : isLampOrder 2 m = true := by simp [isLampOrder, lampActionOf, hk, hclear]
  refine congrArg Host.Outcome.next ((takeMessage_head _ takeLampClear s m rest h hm).trans ?_)
  rw [takeLampClear, lampOrderGroup, lampActionOf, if_pos hclear]

end

/-- The end of an override that a set order gives: none for 65,535, otherwise last seen at the order (R137, R138). -/
theorem untilOf_map (n seen : Nat) :
    (untilOf n).map (fun u => (u, seen)) = if n = 65535 then none else some (min 1439 n, seen) := by
  unfold untilOf; split <;> rfl

/-- Settles O49: an order of no group is malformed, any other is the set or the clear of its group. -/
theorem lampOrdersTaken : Obligations.LampOrdersTaken := by
  refine ⟨fun s m rest hhead hkind => ?_, Lamps.group_setGroup⟩
  intro group action level until' given
  refine ⟨fun hbad => ⟨fun hset => ?_, fun hclear => ?_⟩, fun g hg => ⟨fun hset => ?_, fun hclear => ?_⟩⟩
  · rw [exec_lampOrderSet hhead hkind hset, Group.ofCode_eq_none hbad, withBody_none]
  · rw [exec_lampOrderClear hhead hkind hclear, Group.ofCode_eq_none hbad, withBody_none]
  · rw [exec_lampOrderSet hhead hkind hset, hg, ← untilOf_map]
    rfl
  · rw [exec_lampOrderClear hhead hkind hclear, hg]
    rfl

/-! ### Overrides watched (R128) -/

theorem inForward_iff (seen now point : Nat) :
    inForward seen now point = true ↔
      (seen ≤ now ∧ seen < point ∧ point ≤ now) ∨ (now < seen ∧ (seen < point ∨ point ≤ now)) := by
  unfold inForward
  split
  · simp only [Bool.and_eq_true, decide_eq_true_eq]; omega
  · simp only [Bool.or_eq_true, decide_eq_true_eq]; omega

theorem Lamps.group_watchOverrides (l : Lamps) (now : Nat) (g : Group) :
    (l.watchOverrides now).group g =
      { l.group g with override := (l.group g).override.bind (Override.watch now) } :=
  l.group_mapGroups _ g

/-! ### The lamp step (R127 to R133) -/

/-- The channel with the duty a scale out of 1024 gives it (R134, R135). -/
def LampChannel.scaled (scale : Nat) (x : LampChannel) : LampChannel := { x with duty := x.wanted * scale / 1024 }

/-- The channels after stages 3 to 5 of the lamp step, their duties still those of before. -/
def State.fadedLamps (s : State) : List LampChannel :=
  List.zipWith (lampFade s.settings (lampStep s).lamps s.clock.daylight) s.settings.lamps s.lamps.channels

/-- The scale of the lamp step (R134). -/
def State.lampScale (s : State) : Nat := Machine.lampScale (lampDemand s.settings.lamps s.fadedLamps) s.gov.allowance

section
variable (s : State)

theorem lampStep_channels : (lampStep s).lamps.channels = s.fadedLamps.map (LampChannel.scaled s.lampScale) := rfl

theorem lampStep_group (g : Group) :
    (lampStep s).lamps.group g =
      { override := (s.lamps.group g).override.bind (Override.watch s.clock.time)
        latch := latchAfter (s.settings.group g) s.clock.daylight (s.lamps.group g).latch } := by
  cases g <;> rfl

theorem lampStep_channels_length (h : s.lamps.channels.length = s.settings.lamps.length) :
    (lampStep s).lamps.channels.length = s.lamps.channels.length := by
  rw [lampStep_channels, List.length_map, State.fadedLamps, List.length_zipWith, ← h, Nat.min_self]

/-- Each channel fades by itself and is then scaled. -/
theorem lampStep_channel {i : Nat} {c : LampCfg} {x : LampChannel} (hc : s.settings.lamps[i]? = some c)
    (hx : s.lamps.channels[i]? = some x) :
    (lampStep s).lamps.channels[i]? =
      some ((lampFade s.settings (lampStep s).lamps s.clock.daylight c x).scaled s.lampScale) := by
  rw [lampStep_channels, List.getElem?_map, State.fadedLamps, List.getElem?_zipWith, hc, hx]
  rfl

end

/-- An unconfigured channel is dark (R125). -/
theorem lampFade_unconfigured (st : Settings) (l : Lamps) (daylight : Nat) {c : LampCfg} (x : LampChannel)
    (h : c.configured = false) : lampFade st l daylight c x = .dark := by
  simp [lampFade, h]

/-- A configured channel fades toward its requested level, or stays at 0 under the trip mark (R131 to R133). -/
theorem lampFade_configured (st : Settings) (l : Lamps) (daylight : Nat) {c : LampCfg} (x : LampChannel)
    (h : c.configured = true) :
    let want := requestedLevel (st.group c.group) (l.group c.group) daylight
    let present := if l.tripMark then 0 else moveToward want (st.group c.group).fade x.present
    lampFade st l daylight c x =
      { x with requested := want, present := present, wanted := wantedDuty present } :=
  if_pos h

theorem LampChannel.scaled_dark (scale : Nat) : LampChannel.dark.scaled scale = .dark := by
  simp [scaled, dark]

/-! ### What the lamps draw (R134, R135) -/

/-- What the configured channels draw together when each takes the share `f` of its full scale. -/
def lampDraw (cfg : List LampCfg) (chs : List LampChannel) (f : LampChannel → Nat) : Nat :=
  (List.zipWith (fun (c : LampCfg) (x : LampChannel) => if c.configured then f x * c.fullScale else 0) cfg chs).sum

theorem lampDraw_map (cfg : List LampCfg) (chs : List LampChannel) (g : LampChannel → LampChannel)
    (f : LampChannel → Nat) : lampDraw cfg (chs.map g) f = lampDraw cfg chs (f ∘ g) := by
  rw [lampDraw, List.zipWith_map_right]
  rfl

theorem lampDraw_wanted (cfg : List LampCfg) (chs : List LampChannel) :
    lampDraw cfg chs (fun x => x.wanted) = lampDemand cfg chs := rfl

theorem lampDraw_cons (c : LampCfg) (cfg : List LampCfg) (x : LampChannel) (chs : List LampChannel)
    (f : LampChannel → Nat) :
    lampDraw (c :: cfg) (x :: chs) f = (if c.configured then f x * c.fullScale else 0) + lampDraw cfg chs f := by
  simp [lampDraw]

/-- Rounding down the scaled duties only takes from the draw. -/
theorem lampDraw_scaled_le (scale : Nat) (cfg : List LampCfg) (chs : List LampChannel) :
    lampDraw cfg chs (fun x => x.wanted * scale / 1024) * 1024 ≤ scale * lampDemand cfg chs := by
  simp only [← lampDraw_wanted]
  induction cfg generalizing chs with
  | nil => simp [lampDraw]
  | cons c cfg ih =>
    cases chs with
    | nil => simp [lampDraw]
    | cons x chs =>
      have hone : x.wanted * scale / 1024 * c.fullScale * 1024 ≤ scale * (x.wanted * c.fullScale) := by
        calc x.wanted * scale / 1024 * c.fullScale * 1024
            = x.wanted * scale / 1024 * 1024 * c.fullScale := Nat.mul_right_comm ..
          _ ≤ x.wanted * scale * c.fullScale := Nat.mul_le_mul_right _ (Nat.div_mul_le_self ..)
          _ = scale * (x.wanted * c.fullScale) := by rw [Nat.mul_comm x.wanted scale, Nat.mul_assoc]
      rw [lampDraw_cons, lampDraw_cons, Nat.add_mul, Nat.mul_add]
      refine Nat.add_le_add ?_ (ih chs)
      split
      · exact hone
      · simp

/-- The scale keeps the demand within the allowance (R134). -/
theorem lampScale_mul_demand_le (demand allowance : Nat) :
    lampScale demand allowance * demand ≤ allowance * 1000 * 1024 := by
  unfold lampScale
  split
  · next h => simp [h]
  · exact Nat.le_trans (Nat.mul_le_mul_right demand (Nat.min_le_right ..)) (Nat.div_mul_le_self ..)

section
variable (s : State)

/-- Scaling leaves the wanted duties, and with them the demand. -/
theorem lampStep_demand :
    lampDemand s.settings.lamps (lampStep s).lamps.channels = lampDemand s.settings.lamps s.fadedLamps := by
  rw [lampStep_channels, ← lampDraw_wanted, lampDraw_map]
  rfl

/-- All lamps together draw no more than the allowance (R135). -/
theorem lampStep_draw_le :
    lampDraw s.settings.lamps (lampStep s).lamps.channels (fun x => x.duty) ≤ 1000 * s.gov.allowance := by
  have hround := lampDraw_scaled_le s.lampScale s.settings.lamps s.fadedLamps
  have hscale : s.lampScale * lampDemand s.settings.lamps s.fadedLamps ≤ s.gov.allowance * 1000 * 1024 :=
    lampScale_mul_demand_le ..
  have hdraw : lampDraw s.settings.lamps (lampStep s).lamps.channels (fun x => x.duty) =
      lampDraw s.settings.lamps s.fadedLamps (fun x => x.wanted * s.lampScale / 1024) := by
    rw [lampStep_channels, lampDraw_map]
    rfl
  omega

/-- A station at work puts its lamps' duties out. -/
theorem lampOutputs_of_active (h : s.active = true) : s.lampOutputs = s.lamps.channels.map fun x => x.duty := if_pos h

theorem exec_lampStep (h : s.active = true) : exec .lampStep s = .next (lampStep s) := by
  simp [exec, execLampStep, h]

end

/-- Settles O50: each channel fades by itself; the scale bounds the demand and rounding only takes from it. -/
theorem lampStepWithinAllowance : Obligations.LampStepWithinAllowance := by
  refine ⟨fun s hactive hlength => .of_next (exec_lampStep s hactive) ?step, inForward_iff, fun l now g => ?watched⟩
  case watched =>
    rw [l.group_watchOverrides]
    cases (l.group g).override <;> rfl
  case step =>
    intro draw demand scale now light watched latched asked
    have hscale : scale = s.lampScale :=
      congrArg (fun d => lampScale d s.gov.allowance) (lampStep_demand s)
    refine ⟨rfl, rfl, fun g => ?group, fun i c x y hc hx hy => ?channel, lampStep_channels_length s hlength,
      lampOutputs_of_active (lampStep s) hactive, lampStep_draw_le s⟩
    case group =>
      have hlatch (c : GroupCfg) (was : Bool) : latchAfter c light was = latched c was := by
        obtain ⟨mode⟩ := c
        cases mode <;> rfl
      rw [lampStep_group, hlatch]
      rfl
    case channel =>
      have hy' := Option.some.inj (hy.symm.trans (lampStep_channel s hc hx))
      refine ⟨fun hdark => ?_, fun hlit => ?_⟩
      · rw [hy', lampFade_unconfigured _ _ _ x hdark, LampChannel.scaled_dark]
        rfl
      · intro want fade
        rw [hscale, hy', lampFade_configured _ _ _ x hlit, moveToward_spec]
        exact ⟨rfl, rfl, rfl, rfl⟩

end Sys2Proof.Machine
end
